-- ==== Sys2Proof/Word.lean ====
section
/-! DEFINITION. The machine's word, byte and narrow-register types (00 R6, R7, R8; 10 R20, R26). -/

namespace Sys2Proof

/-- A word: 31 bits, bit 30 the sign and bits 29..0 the magnitude (10 R20). Every bit pattern is legal; `+0` and
`-0` are two words. -/
abbrev Word := BitVec 31

/-- A MIX byte: six bits, 0..63 (00 R6). The fields C, F and I of an instruction are bytes 5, 4 and 3 of its word
(30 R70). -/
abbrev Byte := BitVec 6

/-- The content of a narrow register (I1..I6, J): a sign bit (`true` is `-`) and a 12-bit magnitude (10 R26). Held as
the pair, one of the two forms the rule allows (log 10). -/
structure Narrow where
  sign : Bool
  mag : BitVec 12
deriving DecidableEq, Repr

end Sys2Proof
end

