-- ==== Sys2Proof/Config.lean ====
section
/-! DEFINITION. What the spec leaves to an implementation: the parameter ZERO_SUM_SIGN and the free words of an
overflowing DIV (00 R6). The fixed parameters of 00 R6 (4000 words, 6-bit bytes, 2^30, 2^12) stand as numerals where
the rules use them. -/

namespace Sys2Proof

/-- The parameter ZERO_SUM_SIGN of 41 R136: the sign an exactly zero sum gets. A machine's value is the field
`zeroSumSign` of its state, written by nothing, so every statement about states holds for both values (log 2). -/
inductive ZeroSumSign where
  /-- A zero sum is `+0`: the default of 00 R6. -/
  | plus
  /-- A zero sum keeps the sign of the old register value: Knuth's rule (92 D2). -/
  | keepOld
deriving DecidableEq, Repr

namespace Config

/-- The free words: `freeWord n` is the n-th `draw()` (00 R10), any word at all. It has no body, so nothing can be
proved of its values. A DIV whose quotient does not fit puts two of them into A and X (44 R194, 92 D4, 93 U1; log 3). -/
opaque freeWord : Nat → Word

end Config

end Sys2Proof
end

