-- ==== Sys2Proof/Machine/State.lean ====
section
/-! DEFINITION. The architectural state (10, the whole file), the faults (60 R370) and the state after reset
(10 R40, 70 R400). Plain data. -/

namespace Sys2Proof.Machine

/-- The nine registers (10 R21). -/
inductive Reg where
  | a | x | i1 | i2 | i3 | i4 | i5 | i6 | j
deriving DecidableEq, Repr

/-- The comparison indicator's three values (10 R34); also the transient state a register jump tests (10 R39). -/
inductive Indicator where
  | less | equal | greater
deriving DecidableEq, Repr

/-- A memory cell: a word address and its 31-bit word (20 R50: nothing is byte-addressable; log 4). -/
abbrev Cell := Nat × Word

/-- Memory: the words that differ from `+0`, at strictly rising addresses (10 R36; the form is `Memory.wf`). -/
abbrev Memory := List Cell

/-- What InvalidAddress records (60 R370): the address, or for MOVE the triple (s, d, n). -/
inductive AddressInfo where
  | word (address : Nat)
  | move (source : Nat) (destination : Int) (count : Nat)
deriving DecidableEq, Repr

/-- The error values of 60 R370, each with the info that rule records. All are the spec's own; each is safe, because
the spec itself ends the step there. -/
inductive FaultCause where
  /-- Code 1. Raised by a fetch, a memory operand, or MOVE's bounds check, and by the host's memory commands. Safe. -/
  | invalidAddress (info : AddressInfo)
  /-- Code 2. Raised by the host's pokes only; no instruction raises it. Safe. -/
  | invalidWordValue (value : Nat)
  /-- Code 3. Raised by the codec, by the jump handler, and by the decoder for opcodes 6 and 48..55. Safe. -/
  | invalidFieldSpec (f : Byte)
  /-- Code 4. Raised by the index computation of every implemented instruction. Safe. -/
  | invalidIndexSpec (i : Byte)
  /-- Code 5. Raised by the effective address of every family but Address-Transfer. Safe. -/
  | negativeEffectiveAddress (m : Int)
  /-- Code 6. Raised by loads and enters into I1..I6, and by the host's register poke. Safe. -/
  | registerNarrowingError (w : Word)
  /-- Code 7. Raised for the opcodes 0, 5 and 34..38, which the spec leaves unimplemented. Safe. -/
  | unknownOpcode (c f : Byte)
  /-- Code 8. Raised by INC and DEC of I1..I6 whose exact sum does not fit 12 bits. Safe. -/
  | undefinedOverflow (sum : Int)
  /-- Code 9. Raised by DIV whose truncated operand has magnitude 0. Safe. -/
  | divisionByZero (v : Word)
deriving DecidableEq, Repr

/-- The whole architectural state `(A, X, I1..I6, J, Mem, PC, OT, CI)` (10 R41), and after it two fields of the
MODEL's own: the parameter ZERO_SUM_SIGN and the count of free words drawn (log 2, log 3). -/
structure State where
  /-- A, the accumulator (10 R22). -/
  regA : Word
  /-- X, the extension (10 R23). -/
  regX : Word
  /-- I1, also MOVE's destination pointer (10 R24). -/
  regI1 : Narrow
  regI2 : Narrow
  regI3 : Narrow
  regI4 : Narrow
  regI5 : Narrow
  regI6 : Narrow
  /-- J, the jump register (10 R25). -/
  regJ : Narrow
  /-- PC, 13 bits holding 0..8190 (10 R30; log 9). -/
  pc : BitVec 13
  /-- OT, the overflow toggle (10 R32). -/
  ot : Bool
  /-- CI, the comparison indicator (10 R34). -/
  ci : Indicator
  /-- Mem[0..3999] (10 R36). -/
  mem : Memory
  /-- The parameter ZERO_SUM_SIGN (41 R136): not state of the machine, written by nothing (log 2). -/
  zeroSumSign : ZeroSumSign
  /-- How many free words have been drawn: the model's own (log 3). -/
  draws : Nat
deriving DecidableEq, Repr

/-- A step that returned `Err` (60 R371). -/
inductive Fault where
  /-- Raised by every check of 60 R373. `cause` is the value the step returns to its host, `after` the state the step
  leaves behind (60 R372), from which the host may step again. Safe: the spec ends the step here (log 1). -/
  | raised (cause : FaultCause) (after : State)
deriving DecidableEq, Repr

/-- Why the model gives an instruction no meaning. -/
inductive Refusal where
  /-- Raised by an arm of `exec` for an instruction without a meaning; no arm is left that does. Safe. -/
  | notModelled (mnemonic : String)
deriving DecidableEq, Repr

/-- The result of a step (70 R407): `next` is Ok, `fault` is Err. -/
abbrev Outcome := Host.Outcome State Fault Refusal

/-- The narrow value `+0`. -/
def Narrow.plusZero : Narrow := ⟨false, 0⟩

/-- `new()`: registers and memory `+0`, PC 0, OT clear, CI Less (10 R40, 70 R400). ZERO_SUM_SIGN has its default
(00 R6) and no free word has been drawn. -/
def State.reset : State where
  regA := 0
  regX := 0
  regI1 := Narrow.plusZero
  regI2 := Narrow.plusZero
  regI3 := Narrow.plusZero
  regI4 := Narrow.plusZero
  regI5 := Narrow.plusZero
  regI6 := Narrow.plusZero
  regJ := Narrow.plusZero
  pc := 0
  ot := false
  ci := .less
  mem := []
  zeroSumSign := .plus
  draws := 0

end Sys2Proof.Machine
end

