-- ==== Sys2Proof/Machine/Codec.lean ====
section
/-! DEFINITION. The word and field codec (40): pure functions on words. Those that can fail answer the fault's
cause. -/

namespace Sys2Proof.Machine

/-- The sign of a word, bit 30; `true` is `-` (00 R8). -/
def sign (w : Word) : Bool := w.msb

/-- The magnitude of a word, bits 29..0 (00 R8). -/
def mag (w : Word) : Nat := w.toNat % 2 ^ 30

/-- The word `s * 2^30 + m`, for `m < 2^30` (00 R8). -/
def mkword (s : Bool) (m : Nat) : Word := BitVec.ofNat 31 (s.toNat * 2 ^ 30 + m)

/-- Byte k of a word, `w[35-6k : 30-6k]`, for k in 1..5 (00 R7). -/
def byte (w : Word) (k : Nat) : Nat := w.toNat / 2 ^ (30 - 6 * k) % 2 ^ 6

/-- `L = F div 8` (40 R100). -/
def fieldL (f : Byte) : Nat := f.toNat / 8

/-- `R = F mod 8` (40 R100). -/
def fieldR (f : Byte) : Nat := f.toNat % 8

/-- `L' = max(L, 1)`: the first byte a field spec selects (40 R100). -/
def fieldFirst (f : Byte) : Nat := max (fieldL f) 1

/-- A field spec is legal iff `L <= R <= 5` (40 R100). -/
def legalField (f : Byte) : Bool := fieldL f ≤ fieldR f && fieldR f ≤ 5

/-- `n = R - L' + 1`, the number of bytes a legal field spec selects; 0 for `(0:0)` (40 R101). -/
def fieldBytes (f : Byte) : Nat := fieldR f + 1 - fieldFirst f

/-- The selected bytes of `v` right-justified, with its sign if `L = 0` and `+` otherwise (40 R101). -/
def truncateToField (v : Word) (f : Byte) : Except FaultCause Word :=
  if legalField f then
    .ok (mkword (decide (fieldL f = 0) && sign v)
      (mag v / 2 ^ (6 * (5 - fieldR f)) % 2 ^ (6 * fieldBytes f)))
  else .error (.invalidFieldSpec f)

/-- `dst` with the rightmost `n` bytes of `src` at the byte positions `L'..R`, and with `src`'s sign if `L = 0`
(40 R103). The three summands are the bytes left of `L'`, the new bytes, and the bytes right of `R`. -/
def embedFromField (src dst : Word) (f : Byte) : Except FaultCause Word :=
  if legalField f then
    .ok (mkword (if fieldL f = 0 then sign src else sign dst)
      (mag dst / 2 ^ (6 * (6 - fieldFirst f)) * 2 ^ (6 * (6 - fieldFirst f))
        + mag src % 2 ^ (6 * fieldBytes f) * 2 ^ (6 * (5 - fieldR f))
        + mag dst % 2 ^ (6 * (5 - fieldR f))))
  else .error (.invalidFieldSpec f)

/-- `negate` flips only the sign bit (40 R105). -/
def negate (v : Word) : Word := v ^^^ BitVec.ofNat 31 (2 ^ 30)

/-- A narrow register's value as a word: bytes 1..3 zero (40 R106). -/
def widen (n : Narrow) : Word := mkword n.sign n.mag.toNat

/-- A word as a narrow register's value: an error unless bits 29..12 are zero (40 R107). -/
def narrow (w : Word) : Except FaultCause Narrow :=
  if mag w < 2 ^ 12 then .ok ⟨sign w, BitVec.ofNat 12 (mag w)⟩
  else .error (.registerNarrowingError w)

/-- The signed integer of a word; both zeros are 0 (40 R108). -/
def toInt (w : Word) : Int := if sign w then -(mag w : Int) else mag w

/-- The word of an integer of magnitude below 2^30; 0 is `+0` (40 R109). -/
def fromInt (n : Int) : Word := mkword (decide (n < 0)) n.natAbs

end Sys2Proof.Machine
end

