-- ==== Sys2Proof/Machine/Memory.lean ====
section
/-! DEFINITION. Memory as a canonical list of its non-zero words (20 R50 to R52; log 4). -/

namespace Sys2Proof.Machine

/-- What an address that is not listed reads as: `+0`, the reset contents (10 R40). -/
def Memory.unlisted : Word := 0

/-- The word at an address. Addresses above 3999 are never asked: `memRead` checks first. -/
def Memory.read : Memory → Nat → Word
  | [], _ => Memory.unlisted
  | (b, w) :: m, a => if a = b then w else Memory.read m a

/-- Memory with the word at an address replaced, in canonical form again: writing what an unlisted address reads as
removes the entry. -/
def Memory.write : Memory → Nat → Word → Memory
  | [], a, w => if w = Memory.unlisted then [] else [(a, w)]
  | (b, v) :: m, a, w =>
    if a < b then (if w = Memory.unlisted then (b, v) :: m else (a, w) :: (b, v) :: m)
    else if a = b then (if w = Memory.unlisted then m else (a, w) :: m)
    else (b, v) :: Memory.write m a w

/-- Canonical from address `lo` on: addresses strictly rising, none below `lo`, all below 4000 (20 R50), no entry equal
to what an unlisted address reads as. -/
def Memory.wfFrom (lo : Nat) : Memory → Bool
  | [] => true
  | (a, w) :: m => decide (lo ≤ a) && decide (a < 4000) && decide (w ≠ Memory.unlisted) && Memory.wfFrom (a + 1) m

/-- The canonical form of memory. -/
def Memory.wf (m : Memory) : Bool := Memory.wfFrom 0 m

end Sys2Proof.Machine
end

