-- ==== Sys2Proof/Machine/Ops.lean ====
section
/-! DEFINITION. The named operations over the state: one update per field, the registers, memory, the fetch, and
raising a fault. -/

namespace Sys2Proof.Machine

/-! ### One update per field -/

def State.setA (s : State) (w : Word) : State := { s with regA := w }
def State.setX (s : State) (w : Word) : State := { s with regX := w }
def State.setI1 (s : State) (n : Narrow) : State := { s with regI1 := n }
def State.setI2 (s : State) (n : Narrow) : State := { s with regI2 := n }
def State.setI3 (s : State) (n : Narrow) : State := { s with regI3 := n }
def State.setI4 (s : State) (n : Narrow) : State := { s with regI4 := n }
def State.setI5 (s : State) (n : Narrow) : State := { s with regI5 := n }
def State.setI6 (s : State) (n : Narrow) : State := { s with regI6 := n }
def State.setJ (s : State) (n : Narrow) : State := { s with regJ := n }
def State.setPc (s : State) (p : BitVec 13) : State := { s with pc := p }
def State.setOt (s : State) (b : Bool) : State := { s with ot := b }
def State.setCi (s : State) (c : Indicator) : State := { s with ci := c }
def State.setMem (s : State) (m : Memory) : State := { s with mem := m }
def State.setDraws (s : State) (n : Nat) : State := { s with draws := n }

/-! ### Registers -/

/-- A and X are wide; I1..I6 and J are narrow (10 R21). -/
def Reg.wide : Reg → Bool
  | .a | .x => true
  | .i1 | .i2 | .i3 | .i4 | .i5 | .i6 | .j => false

/-- `R[r]`: a narrow register is widened (00 R10). -/
def State.readReg (s : State) : Reg → Word
  | .a => s.regA
  | .x => s.regX
  | .i1 => widen s.regI1
  | .i2 => widen s.regI2
  | .i3 => widen s.regI3
  | .i4 => widen s.regI4
  | .i5 => widen s.regI5
  | .i6 => widen s.regI6
  | .j => widen s.regJ

/-- `R[r] <- w`: a narrow register goes through `narrow`, which can fail (00 R10). -/
def State.writeReg (s : State) (r : Reg) (w : Word) : Except FaultCause State :=
  match r with
  | .a => .ok (s.setA w)
  | .x => .ok (s.setX w)
  | .i1 => (narrow w).map s.setI1
  | .i2 => (narrow w).map s.setI2
  | .i3 => (narrow w).map s.setI3
  | .i4 => (narrow w).map s.setI4
  | .i5 => (narrow w).map s.setI5
  | .i6 => (narrow w).map s.setI6
  | .j => (narrow w).map s.setJ

/-! ### Memory and the fetch -/

/-- `MemRead(a, 1)` (20 R51). An address is never negative here: every caller has checked its sign. -/
def State.memRead (s : State) (a : Nat) : Except FaultCause Word :=
  if a < 4000 then .ok (s.mem.read a) else .error (.invalidAddress (.word a))

/-- `MemWrite(a, 1, w)` (20 R52). -/
def State.memWrite (s : State) (a : Nat) (w : Word) : Except FaultCause State :=
  if a < 4000 then .ok (s.setMem (s.mem.write a w)) else .error (.invalidAddress (.word a))

/-- The fetch: the word at PC (41 R130). -/
def State.fetch (s : State) : Except FaultCause Word := s.memRead s.pc.toNat

/-- `PC <- PC + 1`, after every successful fetch and before dispatch (41 R131). -/
def State.advancePc (s : State) : State := s.setPc (s.pc + 1)

/-! ### Faults

The machine has no trap: a fault saves nothing, moves control nowhere and changes no mode (60 R375). Raising one ends
the step with its cause and with the state as it stands (60 R371, R372). Resuming means stepping again from that state
(60 R377). -/

/-- Ends the step with the fault `c`, leaving the state `s` (60 R371). -/
def raise (c : FaultCause) (s : State) : Outcome := .fault (.raised c s)

/-- The error value a faulting step returns (60 R371). -/
def Fault.cause : Fault → FaultCause
  | .raised c _ => c

/-- The state a faulting step leaves, and the one a later step continues from (60 R372, R377). -/
def Fault.resume : Fault → State
  | .raised _ s => s

/-- The numeric code of a fault (60 R370, 92 D12). -/
def FaultCause.code : FaultCause → Nat
  | .invalidAddress _ => 1
  | .invalidWordValue _ => 2
  | .invalidFieldSpec _ => 3
  | .invalidIndexSpec _ => 4
  | .negativeEffectiveAddress _ => 5
  | .registerNarrowingError _ => 6
  | .unknownOpcode _ _ => 7
  | .undefinedOverflow _ => 8
  | .divisionByZero _ => 9

/-- The end of a handler that makes all its checks before its first write (41 R137): its result, or its fault with the
state it started from. -/
def conclude (s : State) : Except FaultCause State → Outcome
  | .ok t => .next t
  | .error c => raise c s

end Sys2Proof.Machine
end

