-- ==== Sys2Proof/Machine/Flags.lean ====
section
/-! DEFINITION. The flag computations: the overflow toggle and the sign of a sum (41 R136), the comparison indicator
(46 R250), and the conditions that jumps test (47 R272 to R274). -/

namespace Sys2Proof.Machine

/-- A sum in A or X overflows when its magnitude needs more than 30 bits (10 R32). -/
def wideOverflow (sum : Int) : Bool := decide (2 ^ 30 ≤ sum.natAbs)

/-- OT after a signed addition into A or X: set on overflow, never cleared here (41 R136). -/
def State.noteOverflow (s : State) (sum : Int) : State := if wideOverflow sum then s.setOt true else s

/-- The sign of a zero sum: `+`, or the old value's sign, as the parameter says (41 R136, 92 D2). -/
def zeroSign (z : ZeroSumSign) (old : Word) : Bool :=
  match z with
  | .plus => false
  | .keepOld => sign old

/-- The sign of a sum (41 R136). -/
def sumSign (z : ZeroSumSign) (old : Word) (sum : Int) : Bool :=
  if sum < 0 then true else if 0 < sum then false else zeroSign z old

/-- The indicator of a comparison of two integers; `+0` and `-0` are both 0 (46 R250, 10 R35). -/
def compareInts (r m : Int) : Indicator := if r < m then .less else if r = m then .equal else .greater

/-- The transient state a register jump tests: Equal for magnitude 0, else by the sign (47 R274). -/
def regState (w : Word) : Indicator :=
  if mag w = 0 then .equal else if sign w then .less else .greater

/-- The condition of the jump sub-modes 4..9 on a three-valued state (47 R273); none for any other sub-mode. -/
def condition (sub : Nat) (t : Indicator) : Option Bool :=
  match sub with
  | 4 => some (decide (t = .less))
  | 5 => some (decide (t = .equal))
  | 6 => some (decide (t = .greater))
  | 7 => some (decide (t ≠ .less))
  | 8 => some (decide (t ≠ .equal))
  | 9 => some (decide (t ≠ .greater))
  | _ => none

end Sys2Proof.Machine
end

