-- ==== Sys2Proof/Syntax.lean ====
section
/-! DEFINITION. The instructions: one constructor per row of spec/opcode_table.json, its operands the fields the row
leaves open (30 R70, R76). -/

namespace Sys2Proof

/-- The address part every instruction word carries: S, AA and I (30 R70). The index spec is kept raw: 7..63 decode
and are refused when the address is computed (30 R73). -/
structure Addr where
  /-- S, the address sign; `true` is `-`. Kept although AA may be 0 (30 R72). -/
  sign : Bool
  /-- AA, the address magnitude. -/
  aa : BitVec 12
  /-- I, the index spec. -/
  i : Byte
deriving DecidableEq, Repr

/-- The instructions of the opcode table. `f` is the field spec F, raw (30 R74: the codec checks it); `count` is
MOVE's word count. -/
inductive Instr where
  /-- ADD: add to A (C = 1; 44 R191). -/
  | add (a : Addr) (f : Byte)
  /-- SUB: subtract from A (C = 2; 44 R192). -/
  | sub (a : Addr) (f : Byte)
  /-- MUL: multiply A by the operand, giving A:X (C = 3; 44 R193). -/
  | mul (a : Addr) (f : Byte)
  /-- DIV: divide A:X by the operand (C = 4; 44 R194). -/
  | div (a : Addr) (f : Byte)
  /-- SLA: shift left A (C = 6, F = 0; 48 R341). -/
  | sla (a : Addr)
  /-- SRA: shift right A (C = 6, F = 1; 48 R342). -/
  | sra (a : Addr)
  /-- SLAX: shift left A:X (C = 6, F = 2; 48 R343). -/
  | slax (a : Addr)
  /-- SRAX: shift right A:X (C = 6, F = 3; 48 R344). -/
  | srax (a : Addr)
  /-- SLC: shift left circularly A:X (C = 6, F = 4; 48 R345). -/
  | slc (a : Addr)
  /-- SRC: shift right circularly A:X (C = 6, F = 5; 48 R346). -/
  | src (a : Addr)
  /-- MOVE: move words (C = 7; 49 R360). -/
  | move (a : Addr) (count : Byte)
  /-- LDA: load A (C = 8; 42 R152). -/
  | lda (a : Addr) (f : Byte)
  /-- LD1: load I1 (C = 9; 42 R153). -/
  | ld1 (a : Addr) (f : Byte)
  /-- LD2: load I2 (C = 10; 42 R154). -/
  | ld2 (a : Addr) (f : Byte)
  /-- LD3: load I3 (C = 11; 42 R155). -/
  | ld3 (a : Addr) (f : Byte)
  /-- LD4: load I4 (C = 12; 42 R156). -/
  | ld4 (a : Addr) (f : Byte)
  /-- LD5: load I5 (C = 13; 42 R157). -/
  | ld5 (a : Addr) (f : Byte)
  /-- LD6: load I6 (C = 14; 42 R158). -/
  | ld6 (a : Addr) (f : Byte)
  /-- LDX: load X (C = 15; 42 R159). -/
  | ldx (a : Addr) (f : Byte)
  /-- LDAN: load A negative (C = 16; 42 R160). -/
  | ldan (a : Addr) (f : Byte)
  /-- LD1N: load I1 negative (C = 17; 42 R161). -/
  | ld1n (a : Addr) (f : Byte)
  /-- LD2N: load I2 negative (C = 18; 42 R162). -/
  | ld2n (a : Addr) (f : Byte)
  /-- LD3N: load I3 negative (C = 19; 42 R163). -/
  | ld3n (a : Addr) (f : Byte)
  /-- LD4N: load I4 negative (C = 20; 42 R164). -/
  | ld4n (a : Addr) (f : Byte)
  /-- LD5N: load I5 negative (C = 21; 42 R165). -/
  | ld5n (a : Addr) (f : Byte)
  /-- LD6N: load I6 negative (C = 22; 42 R166). -/
  | ld6n (a : Addr) (f : Byte)
  /-- LDXN: load X negative (C = 23; 42 R167). -/
  | ldxn (a : Addr) (f : Byte)
  /-- STA: store A (C = 24; 43 R172). -/
  | sta (a : Addr) (f : Byte)
  /-- ST1: store I1 (C = 25; 43 R173). -/
  | st1 (a : Addr) (f : Byte)
  /-- ST2: store I2 (C = 26; 43 R174). -/
  | st2 (a : Addr) (f : Byte)
  /-- ST3: store I3 (C = 27; 43 R175). -/
  | st3 (a : Addr) (f : Byte)
  /-- ST4: store I4 (C = 28; 43 R176). -/
  | st4 (a : Addr) (f : Byte)
  /-- ST5: store I5 (C = 29; 43 R177). -/
  | st5 (a : Addr) (f : Byte)
  /-- ST6: store I6 (C = 30; 43 R178). -/
  | st6 (a : Addr) (f : Byte)
  /-- STX: store X (C = 31; 43 R179). -/
  | stx (a : Addr) (f : Byte)
  /-- STJ: store J (C = 32; 43 R180). -/
  | stj (a : Addr) (f : Byte)
  /-- STZ: store zero (C = 33; 43 R181). -/
  | stz (a : Addr) (f : Byte)
  /-- JMP: jump (C = 39, F = 0; 47 R280). -/
  | jmp (a : Addr)
  /-- JSJ: jump, save J (C = 39, F = 1; 47 R281). -/
  | jsj (a : Addr)
  /-- JOV: jump on overflow (C = 39, F = 2; 47 R282). -/
  | jov (a : Addr)
  /-- JNOV: jump on no overflow (C = 39, F = 3; 47 R283). -/
  | jnov (a : Addr)
  /-- JL: jump on less (C = 39, F = 4; 47 R284). -/
  | jl (a : Addr)
  /-- JE: jump on equal (C = 39, F = 5; 47 R285). -/
  | je (a : Addr)
  /-- JG: jump on greater (C = 39, F = 6; 47 R286). -/
  | jg (a : Addr)
  /-- JGE: jump on greater or equal (C = 39, F = 7; 47 R287). -/
  | jge (a : Addr)
  /-- JNE: jump on not equal (C = 39, F = 8; 47 R288). -/
  | jne (a : Addr)
  /-- JLE: jump on less or equal (C = 39, F = 9; 47 R289). -/
  | jle (a : Addr)
  /-- JAN: jump if A is negative (C = 40, F = 0; 47 R290). -/
  | jan (a : Addr)
  /-- JAZ: jump if A is zero (C = 40, F = 1; 47 R291). -/
  | jaz (a : Addr)
  /-- JAP: jump if A is positive (C = 40, F = 2; 47 R292). -/
  | jap (a : Addr)
  /-- JANN: jump if A is non-negative (C = 40, F = 3; 47 R293). -/
  | jann (a : Addr)
  /-- JANZ: jump if A is non-zero (C = 40, F = 4; 47 R294). -/
  | janz (a : Addr)
  /-- JANP: jump if A is non-positive (C = 40, F = 5; 47 R295). -/
  | janp (a : Addr)
  /-- J1N: jump if I1 is negative (C = 41, F = 0; 47 R296). -/
  | j1n (a : Addr)
  /-- J1Z: jump if I1 is zero (C = 41, F = 1; 47 R297). -/
  | j1z (a : Addr)
  /-- J1P: jump if I1 is positive (C = 41, F = 2; 47 R298). -/
  | j1p (a : Addr)
  /-- J1NN: jump if I1 is non-negative (C = 41, F = 3; 47 R299). -/
  | j1nn (a : Addr)
  /-- J1NZ: jump if I1 is non-zero (C = 41, F = 4; 47 R300). -/
  | j1nz (a : Addr)
  /-- J1NP: jump if I1 is non-positive (C = 41, F = 5; 47 R301). -/
  | j1np (a : Addr)
  /-- J2N: jump if I2 is negative (C = 42, F = 0; 47 R302). -/
  | j2n (a : Addr)
  /-- J2Z: jump if I2 is zero (C = 42, F = 1; 47 R303). -/
  | j2z (a : Addr)
  /-- J2P: jump if I2 is positive (C = 42, F = 2; 47 R304). -/
  | j2p (a : Addr)
  /-- J2NN: jump if I2 is non-negative (C = 42, F = 3; 47 R305). -/
  | j2nn (a : Addr)
  /-- J2NZ: jump if I2 is non-zero (C = 42, F = 4; 47 R306). -/
  | j2nz (a : Addr)
  /-- J2NP: jump if I2 is non-positive (C = 42, F = 5; 47 R307). -/
  | j2np (a : Addr)
  /-- J3N: jump if I3 is negative (C = 43, F = 0; 47 R308). -/
  | j3n (a : Addr)
  /-- J3Z: jump if I3 is zero (C = 43, F = 1; 47 R309). -/
  | j3z (a : Addr)
  /-- J3P: jump if I3 is positive (C = 43, F = 2; 47 R310). -/
  | j3p (a : Addr)
  /-- J3NN: jump if I3 is non-negative (C = 43, F = 3; 47 R311). -/
  | j3nn (a : Addr)
  /-- J3NZ: jump if I3 is non-zero (C = 43, F = 4; 47 R312). -/
  | j3nz (a : Addr)
  /-- J3NP: jump if I3 is non-positive (C = 43, F = 5; 47 R313). -/
  | j3np (a : Addr)
  /-- J4N: jump if I4 is negative (C = 44, F = 0; 47 R314). -/
  | j4n (a : Addr)
  /-- J4Z: jump if I4 is zero (C = 44, F = 1; 47 R315). -/
  | j4z (a : Addr)
  /-- J4P: jump if I4 is positive (C = 44, F = 2; 47 R316). -/
  | j4p (a : Addr)
  /-- J4NN: jump if I4 is non-negative (C = 44, F = 3; 47 R317). -/
  | j4nn (a : Addr)
  /-- J4NZ: jump if I4 is non-zero (C = 44, F = 4; 47 R318). -/
  | j4nz (a : Addr)
  /-- J4NP: jump if I4 is non-positive (C = 44, F = 5; 47 R319). -/
  | j4np (a : Addr)
  /-- J5N: jump if I5 is negative (C = 45, F = 0; 47 R320). -/
  | j5n (a : Addr)
  /-- J5Z: jump if I5 is zero (C = 45, F = 1; 47 R321). -/
  | j5z (a : Addr)
  /-- J5P: jump if I5 is positive (C = 45, F = 2; 47 R322). -/
  | j5p (a : Addr)
  /-- J5NN: jump if I5 is non-negative (C = 45, F = 3; 47 R323). -/
  | j5nn (a : Addr)
  /-- J5NZ: jump if I5 is non-zero (C = 45, F = 4; 47 R324). -/
  | j5nz (a : Addr)
  /-- J5NP: jump if I5 is non-positive (C = 45, F = 5; 47 R325). -/
  | j5np (a : Addr)
  /-- J6N: jump if I6 is negative (C = 46, F = 0; 47 R326). -/
  | j6n (a : Addr)
  /-- J6Z: jump if I6 is zero (C = 46, F = 1; 47 R327). -/
  | j6z (a : Addr)
  /-- J6P: jump if I6 is positive (C = 46, F = 2; 47 R328). -/
  | j6p (a : Addr)
  /-- J6NN: jump if I6 is non-negative (C = 46, F = 3; 47 R329). -/
  | j6nn (a : Addr)
  /-- J6NZ: jump if I6 is non-zero (C = 46, F = 4; 47 R330). -/
  | j6nz (a : Addr)
  /-- J6NP: jump if I6 is non-positive (C = 46, F = 5; 47 R331). -/
  | j6np (a : Addr)
  /-- JXN: jump if X is negative (C = 47, F = 0; 47 R332). -/
  | jxn (a : Addr)
  /-- JXZ: jump if X is zero (C = 47, F = 1; 47 R333). -/
  | jxz (a : Addr)
  /-- JXP: jump if X is positive (C = 47, F = 2; 47 R334). -/
  | jxp (a : Addr)
  /-- JXNN: jump if X is non-negative (C = 47, F = 3; 47 R335). -/
  | jxnn (a : Addr)
  /-- JXNZ: jump if X is non-zero (C = 47, F = 4; 47 R336). -/
  | jxnz (a : Addr)
  /-- JXNP: jump if X is non-positive (C = 47, F = 5; 47 R337). -/
  | jxnp (a : Addr)
  /-- INCA: increase A (C = 48, F = 0; 45 R216). -/
  | inca (a : Addr)
  /-- DECA: decrease A (C = 48, F = 1; 45 R217). -/
  | deca (a : Addr)
  /-- ENTA: enter A (C = 48, F = 2; 45 R218). -/
  | enta (a : Addr)
  /-- ENNA: enter negative A (C = 48, F = 3; 45 R219). -/
  | enna (a : Addr)
  /-- INC1: increase I1 (C = 49, F = 0; 45 R220). -/
  | inc1 (a : Addr)
  /-- DEC1: decrease I1 (C = 49, F = 1; 45 R221). -/
  | dec1 (a : Addr)
  /-- ENT1: enter I1 (C = 49, F = 2; 45 R222). -/
  | ent1 (a : Addr)
  /-- ENN1: enter negative I1 (C = 49, F = 3; 45 R223). -/
  | enn1 (a : Addr)
  /-- INC2: increase I2 (C = 50, F = 0; 45 R224). -/
  | inc2 (a : Addr)
  /-- DEC2: decrease I2 (C = 50, F = 1; 45 R225). -/
  | dec2 (a : Addr)
  /-- ENT2: enter I2 (C = 50, F = 2; 45 R226). -/
  | ent2 (a : Addr)
  /-- ENN2: enter negative I2 (C = 50, F = 3; 45 R227). -/
  | enn2 (a : Addr)
  /-- INC3: increase I3 (C = 51, F = 0; 45 R228). -/
  | inc3 (a : Addr)
  /-- DEC3: decrease I3 (C = 51, F = 1; 45 R229). -/
  | dec3 (a : Addr)
  /-- ENT3: enter I3 (C = 51, F = 2; 45 R230). -/
  | ent3 (a : Addr)
  /-- ENN3: enter negative I3 (C = 51, F = 3; 45 R231). -/
  | enn3 (a : Addr)
  /-- INC4: increase I4 (C = 52, F = 0; 45 R232). -/
  | inc4 (a : Addr)
  /-- DEC4: decrease I4 (C = 52, F = 1; 45 R233). -/
  | dec4 (a : Addr)
  /-- ENT4: enter I4 (C = 52, F = 2; 45 R234). -/
  | ent4 (a : Addr)
  /-- ENN4: enter negative I4 (C = 52, F = 3; 45 R235). -/
  | enn4 (a : Addr)
  /-- INC5: increase I5 (C = 53, F = 0; 45 R236). -/
  | inc5 (a : Addr)
  /-- DEC5: decrease I5 (C = 53, F = 1; 45 R237). -/
  | dec5 (a : Addr)
  /-- ENT5: enter I5 (C = 53, F = 2; 45 R238). -/
  | ent5 (a : Addr)
  /-- ENN5: enter negative I5 (C = 53, F = 3; 45 R239). -/
  | enn5 (a : Addr)
  /-- INC6: increase I6 (C = 54, F = 0; 45 R240). -/
  | inc6 (a : Addr)
  /-- DEC6: decrease I6 (C = 54, F = 1; 45 R241). -/
  | dec6 (a : Addr)
  /-- ENT6: enter I6 (C = 54, F = 2; 45 R242). -/
  | ent6 (a : Addr)
  /-- ENN6: enter negative I6 (C = 54, F = 3; 45 R243). -/
  | enn6 (a : Addr)
  /-- INCX: increase X (C = 55, F = 0; 45 R244). -/
  | incx (a : Addr)
  /-- DECX: decrease X (C = 55, F = 1; 45 R245). -/
  | decx (a : Addr)
  /-- ENTX: enter X (C = 55, F = 2; 45 R246). -/
  | entx (a : Addr)
  /-- ENNX: enter negative X (C = 55, F = 3; 45 R247). -/
  | ennx (a : Addr)
  /-- CMPA: compare A (C = 56; 46 R252). -/
  | cmpa (a : Addr) (f : Byte)
  /-- CMP1: compare I1 (C = 57; 46 R253). -/
  | cmp1 (a : Addr) (f : Byte)
  /-- CMP2: compare I2 (C = 58; 46 R254). -/
  | cmp2 (a : Addr) (f : Byte)
  /-- CMP3: compare I3 (C = 59; 46 R255). -/
  | cmp3 (a : Addr) (f : Byte)
  /-- CMP4: compare I4 (C = 60; 46 R256). -/
  | cmp4 (a : Addr) (f : Byte)
  /-- CMP5: compare I5 (C = 61; 46 R257). -/
  | cmp5 (a : Addr) (f : Byte)
  /-- CMP6: compare I6 (C = 62; 46 R258). -/
  | cmp6 (a : Addr) (f : Byte)
  /-- CMPX: compare X (C = 63; 46 R259). -/
  | cmpx (a : Addr) (f : Byte)
  /-- NOP: unimplemented by the spec: faults (C = 0; 30 R84). -/
  | nop (a : Addr) (f : Byte)
  /-- NUM: unimplemented by the spec: faults (C = 5, F = 0; 30 R84). -/
  | num (a : Addr)
  /-- CHAR: unimplemented by the spec: faults (C = 5, F = 1; 30 R84). -/
  | char (a : Addr)
  /-- HLT: unimplemented by the spec: faults (C = 5, F = 2; 30 R84). -/
  | hlt (a : Addr)
  /-- opcode 5 with F >= 3: unimplemented by the spec: faults (C = 5, F >= 3; 30 R84). -/
  | opcode5Other (a : Addr) (f : Byte)
  /-- JBUS: unimplemented by the spec: faults (C = 34; 30 R84). -/
  | jbus (a : Addr) (f : Byte)
  /-- IOC: unimplemented by the spec: faults (C = 35; 30 R84). -/
  | ioc (a : Addr) (f : Byte)
  /-- IN: unimplemented by the spec: faults (C = 36; 30 R84). -/
  | in_ (a : Addr) (f : Byte)
  /-- OUT: unimplemented by the spec: faults (C = 37; 30 R84). -/
  | out (a : Addr) (f : Byte)
  /-- JRED: unimplemented by the spec: faults (C = 38; 30 R84). -/
  | jred (a : Addr) (f : Byte)
deriving DecidableEq, Repr

end Sys2Proof
end

