-- ==== Sys2Proof/Machine/Operands.lean ====
section
/-! DEFINITION. The operand forms: index value, indexed address, effective address, and the field-truncated memory
operand (41 R133 to R135, 44 R190). -/

namespace Sys2Proof.Machine

/-- `Aval`, the signed address of the instruction (30 R72). -/
def aval (a : Addr) : Int := if a.sign then -(a.aa.toNat : Int) else a.aa.toNat

/-- The register an index spec in 1..6 names (30 R73). -/
def indexRegister (i : Byte) : Option Reg :=
  match i.toNat with
  | 1 => some .i1
  | 2 => some .i2
  | 3 => some .i3
  | 4 => some .i4
  | 5 => some .i5
  | 6 => some .i6
  | _ => none

/-- The signed offset an index spec gives: 0 for 0, the register's value for 1..6, a fault for 7..63 (41 R133). -/
def indexValue (i : Byte) (s : State) : Except FaultCause Int :=
  if i = 0 then .ok 0
  else
    match indexRegister i with
    | some r => .ok (toInt (s.readReg r))
    | none => .error (.invalidIndexSpec i)

/-- The indexed address M, not checked for sign (41 R134). -/
def indexedAddress (a : Addr) (s : State) : Except FaultCause Int :=
  (indexValue a.i s).map (aval a + ·)

/-- The effective address EA: M, which must not be negative (41 R135). -/
def effectiveAddress (a : Addr) (s : State) : Except FaultCause Nat := do
  let m ← indexedAddress a s
  if m < 0 then .error (.negativeEffectiveAddress m) else .ok m.toNat

/-- The memory operand of loads, arithmetic and comparisons: the field F of the word at EA (42 R150, 44 R190,
46 R250). InvalidAddress is checked before InvalidFieldSpec (60 R373). -/
def fieldOperand (a : Addr) (f : Byte) (s : State) : Except FaultCause Word := do
  let e ← effectiveAddress a s
  let w ← s.memRead e
  truncateToField w f

/-- The word an address-transfer instruction enters or adds: M with, when M is 0, the sign of the instruction's own
address field; then negated if asked (45 R210, R211). -/
def addressWord (a : Addr) (negateValue : Bool) (m : Int) : Word :=
  let v := mkword (if m = 0 then a.sign else decide (m < 0)) m.natAbs
  if negateValue then negate v else v

end Sys2Proof.Machine
end

