-- ==== Sys2Proof/Machine/Arithmetic.lean ====
section
/-! DEFINITION. The shared signed addition (41 R136) and ADD, SUB, MUL, DIV (44). -/

namespace Sys2Proof.Machine

/-- Adds the signed value of `v` into the register `r`. A and X keep the low 30 bits of the magnitude and note an
overflow in OT; an index register faults when the sum needs more than 12 bits (41 R136). -/
def signedAdd (r : Reg) (v : Word) (s : State) : Except FaultCause State :=
  let old := s.readReg r
  let sum := toInt old + toInt v
  let sg := sumSign s.zeroSumSign old sum
  if r.wide then (s.noteOverflow sum).writeReg r (mkword sg (sum.natAbs % 2 ^ 30))
  else if 2 ^ 12 ≤ sum.natAbs then .error (.undefinedOverflow sum)
  else s.writeReg r (mkword sg sum.natAbs)

/-- MUL's effect: the 60-bit product of the magnitudes, its high half in A and its low half in X, both with the
product's sign (44 R193). -/
def multiply (v : Word) (s : State) : State :=
  let p := mag s.regA * mag v
  let sg := Bool.xor (sign s.regA) (sign v)
  (s.setA (mkword sg (p / 2 ^ 30))).setX (mkword sg (p % 2 ^ 30))

/-- DIV's effect. A zero magnitude faults. A quotient of 2^30 or more sets OT and leaves two free words in A and X
(log 3). Otherwise A takes the quotient and X the remainder, with the sign of the OLD A; X's sign plays no part
(44 R194). -/
def divide (v : Word) (s : State) : Except FaultCause State :=
  if mag v = 0 then .error (.divisionByZero v)
  else
    let d := mag s.regA * 2 ^ 30 + mag s.regX
    if mag v ≤ mag s.regA then
      .ok ((((s.setOt true).setA (Config.freeWord s.draws)).setX (Config.freeWord (s.draws + 1))).setDraws (s.draws + 2))
    else
      .ok ((s.setA (mkword (Bool.xor (sign s.regA) (sign v)) (d / mag v))).setX (mkword (sign s.regA) (d % mag v)))

/-- The handler of ADD and SUB; SUB flips the sign of the truncated operand (44 R191, R192). -/
def addOp (subtract : Bool) (a : Addr) (f : Byte) (s : State) : Except FaultCause State := do
  let v ← fieldOperand a f s
  signedAdd .a (if subtract then negate v else v) s

/-- The handler of MUL (44 R193). -/
def mulOp (a : Addr) (f : Byte) (s : State) : Except FaultCause State := do
  let v ← fieldOperand a f s
  .ok (multiply v s)

/-- The handler of DIV (44 R194). -/
def divOp (a : Addr) (f : Byte) (s : State) : Except FaultCause State := do
  let v ← fieldOperand a f s
  divide v s

/-- ADD (44 R191). -/
def execAdd (a : Addr) (f : Byte) (s : State) : Outcome := conclude s (addOp false a f s)

/-- SUB (44 R192). -/
def execSub (a : Addr) (f : Byte) (s : State) : Outcome := conclude s (addOp true a f s)

/-- MUL (44 R193). -/
def execMul (a : Addr) (f : Byte) (s : State) : Outcome := conclude s (mulOp a f s)

/-- DIV (44 R194). -/
def execDiv (a : Addr) (f : Byte) (s : State) : Outcome := conclude s (divOp a f s)

end Sys2Proof.Machine
end

