-- ==== Sys2Proof/Machine/AddressTransfer.lean ====
section
/-! DEFINITION. Address transfer: INC, DEC, ENT, ENN (45). -/

namespace Sys2Proof.Machine

/-- The handler of every address-transfer instruction: M, not checked for sign, as a word, negated if asked, then added
to the register or entered into it (45 R210). -/
def addrXferOp (r : Reg) (negateValue increase : Bool) (a : Addr) (s : State) : Except FaultCause State := do
  let m ← indexedAddress a s
  let v := addressWord a negateValue m
  if increase then signedAdd r v s else s.writeReg r v

/-- INCA (45 R216). -/
def execInca (a : Addr) (s : State) : Outcome := conclude s (addrXferOp .a false true a s)

/-- DECA (45 R217). -/
def execDeca (a : Addr) (s : State) : Outcome := conclude s (addrXferOp .a true true a s)

/-- ENTA (45 R218). -/
def execEnta (a : Addr) (s : State) : Outcome := conclude s (addrXferOp .a false false a s)

/-- ENNA (45 R219). -/
def execEnna (a : Addr) (s : State) : Outcome := conclude s (addrXferOp .a true false a s)

/-- INC1 (45 R220). -/
def execInc1 (a : Addr) (s : State) : Outcome := conclude s (addrXferOp .i1 false true a s)

/-- DEC1 (45 R221). -/
def execDec1 (a : Addr) (s : State) : Outcome := conclude s (addrXferOp .i1 true true a s)

/-- ENT1 (45 R222). -/
def execEnt1 (a : Addr) (s : State) : Outcome := conclude s (addrXferOp .i1 false false a s)

/-- ENN1 (45 R223). -/
def execEnn1 (a : Addr) (s : State) : Outcome := conclude s (addrXferOp .i1 true false a s)

/-- INC2 (45 R224). -/
def execInc2 (a : Addr) (s : State) : Outcome := conclude s (addrXferOp .i2 false true a s)

/-- DEC2 (45 R225). -/
def execDec2 (a : Addr) (s : State) : Outcome := conclude s (addrXferOp .i2 true true a s)

/-- ENT2 (45 R226). -/
def execEnt2 (a : Addr) (s : State) : Outcome := conclude s (addrXferOp .i2 false false a s)

/-- ENN2 (45 R227). -/
def execEnn2 (a : Addr) (s : State) : Outcome := conclude s (addrXferOp .i2 true false a s)

/-- INC3 (45 R228). -/
def execInc3 (a : Addr) (s : State) : Outcome := conclude s (addrXferOp .i3 false true a s)

/-- DEC3 (45 R229). -/
def execDec3 (a : Addr) (s : State) : Outcome := conclude s (addrXferOp .i3 true true a s)

/-- ENT3 (45 R230). -/
def execEnt3 (a : Addr) (s : State) : Outcome := conclude s (addrXferOp .i3 false false a s)

/-- ENN3 (45 R231). -/
def execEnn3 (a : Addr) (s : State) : Outcome := conclude s (addrXferOp .i3 true false a s)

/-- INC4 (45 R232). -/
def execInc4 (a : Addr) (s : State) : Outcome := conclude s (addrXferOp .i4 false true a s)

/-- DEC4 (45 R233). -/
def execDec4 (a : Addr) (s : State) : Outcome := conclude s (addrXferOp .i4 true true a s)

/-- ENT4 (45 R234). -/
def execEnt4 (a : Addr) (s : State) : Outcome := conclude s (addrXferOp .i4 false false a s)

/-- ENN4 (45 R235). -/
def execEnn4 (a : Addr) (s : State) : Outcome := conclude s (addrXferOp .i4 true false a s)

/-- INC5 (45 R236). -/
def execInc5 (a : Addr) (s : State) : Outcome := conclude s (addrXferOp .i5 false true a s)

/-- DEC5 (45 R237). -/
def execDec5 (a : Addr) (s : State) : Outcome := conclude s (addrXferOp .i5 true true a s)

/-- ENT5 (45 R238). -/
def execEnt5 (a : Addr) (s : State) : Outcome := conclude s (addrXferOp .i5 false false a s)

/-- ENN5 (45 R239). -/
def execEnn5 (a : Addr) (s : State) : Outcome := conclude s (addrXferOp .i5 true false a s)

/-- INC6 (45 R240). -/
def execInc6 (a : Addr) (s : State) : Outcome := conclude s (addrXferOp .i6 false true a s)

/-- DEC6 (45 R241). -/
def execDec6 (a : Addr) (s : State) : Outcome := conclude s (addrXferOp .i6 true true a s)

/-- ENT6 (45 R242). -/
def execEnt6 (a : Addr) (s : State) : Outcome := conclude s (addrXferOp .i6 false false a s)

/-- ENN6 (45 R243). -/
def execEnn6 (a : Addr) (s : State) : Outcome := conclude s (addrXferOp .i6 true false a s)

/-- INCX (45 R244). -/
def execIncx (a : Addr) (s : State) : Outcome := conclude s (addrXferOp .x false true a s)

/-- DECX (45 R245). -/
def execDecx (a : Addr) (s : State) : Outcome := conclude s (addrXferOp .x true true a s)

/-- ENTX (45 R246). -/
def execEntx (a : Addr) (s : State) : Outcome := conclude s (addrXferOp .x false false a s)

/-- ENNX (45 R247). -/
def execEnnx (a : Addr) (s : State) : Outcome := conclude s (addrXferOp .x true false a s)

end Sys2Proof.Machine
end

