-- ==== Sys2Proof/Machine/Comparison.lean ====
section
/-! DEFINITION. Comparison (46). -/

namespace Sys2Proof.Machine

/-- The handler of every comparison: the field of the register against the same field of the word at EA, as signed
integers; it writes CI only (46 R250). -/
def compareOp (r : Reg) (a : Addr) (f : Byte) (s : State) : Except FaultCause State := do
  let vm ← fieldOperand a f s
  let vr ← truncateToField (s.readReg r) f
  .ok (s.setCi (compareInts (toInt vr) (toInt vm)))

/-- CMPA (46 R252). -/
def execCmpa (a : Addr) (f : Byte) (s : State) : Outcome := conclude s (compareOp .a a f s)

/-- CMP1 (46 R253). -/
def execCmp1 (a : Addr) (f : Byte) (s : State) : Outcome := conclude s (compareOp .i1 a f s)

/-- CMP2 (46 R254). -/
def execCmp2 (a : Addr) (f : Byte) (s : State) : Outcome := conclude s (compareOp .i2 a f s)

/-- CMP3 (46 R255). -/
def execCmp3 (a : Addr) (f : Byte) (s : State) : Outcome := conclude s (compareOp .i3 a f s)

/-- CMP4 (46 R256). -/
def execCmp4 (a : Addr) (f : Byte) (s : State) : Outcome := conclude s (compareOp .i4 a f s)

/-- CMP5 (46 R257). -/
def execCmp5 (a : Addr) (f : Byte) (s : State) : Outcome := conclude s (compareOp .i5 a f s)

/-- CMP6 (46 R258). -/
def execCmp6 (a : Addr) (f : Byte) (s : State) : Outcome := conclude s (compareOp .i6 a f s)

/-- CMPX (46 R259). -/
def execCmpx (a : Addr) (f : Byte) (s : State) : Outcome := conclude s (compareOp .x a f s)

end Sys2Proof.Machine
end

