-- ==== Sys2Proof/Decode.lean ====
section
/-! DEFINITION. The decoder (30 R79), total on every 31-bit word, and the encoder (30 R88), from the opcode map of
30 R76. The map is in two tables here, `decodeFields` and `encode`, each written out from the rule; one lemma per
instruction under Laws relates them. -/

namespace Sys2Proof

/-! ### The fields of a word (30 R70) -/

/-- C, bits 5..0. -/
def opcodeOf (w : Word) : Byte := w.extractLsb' 0 6

/-- F, bits 11..6. -/
def fieldOf (w : Word) : Byte := w.extractLsb' 6 6

/-- S, AA and I: bit 30, bits 29..18 and bits 17..12. -/
def addrOf (w : Word) : Addr := ⟨w.getLsbD 30, w.extractLsb' 18 12, w.extractLsb' 12 6⟩

/-- The word of its fields, `s<<30 | aa<<18 | i<<12 | f<<6 | c` (30 R88). -/
def pack (a : Addr) (f c : Byte) : Word := BitVec.ofBool a.sign ++ a.aa ++ a.i ++ f ++ c

/-! ### Decoding -/

/-- Why a word is no instruction of the table. -/
inductive Reject where
  /-- Opcode 6 with F >= 6 or opcodes 48..55 with F >= 4: InvalidFieldSpec at decode (30 R86, R87). -/
  | invalidFieldSpec (f : Byte)
  /-- Opcode 39 with F >= 10 or opcodes 40..47 with F >= 6. The spec lets the word decode and the jump handler refuse
  its sub-mode after writing J (47 R275); no row of the table stands for it (log 5). -/
  | illegalJump (c f : Byte) (a : Addr)
deriving DecidableEq, Repr

/-- The opcode map (30 R76, R79): the instruction of the opcode C with the fields F and S, AA, I. -/
def decodeFields (c f : Byte) (a : Addr) : Except Reject Instr :=
  match c.toNat with
  | 0 => .ok (.nop a f)
  | 1 => .ok (.add a f)
  | 2 => .ok (.sub a f)
  | 3 => .ok (.mul a f)
  | 4 => .ok (.div a f)
  | 5 =>
    match f.toNat with
    | 0 => .ok (.num a)
    | 1 => .ok (.char a)
    | 2 => .ok (.hlt a)
    | _ => .ok (.opcode5Other a f)
  | 6 =>
    match f.toNat with
    | 0 => .ok (.sla a)
    | 1 => .ok (.sra a)
    | 2 => .ok (.slax a)
    | 3 => .ok (.srax a)
    | 4 => .ok (.slc a)
    | 5 => .ok (.src a)
    | _ => .error (.invalidFieldSpec f)
  | 7 => .ok (.move a f)
  | 8 => .ok (.lda a f)
  | 9 => .ok (.ld1 a f)
  | 10 => .ok (.ld2 a f)
  | 11 => .ok (.ld3 a f)
  | 12 => .ok (.ld4 a f)
  | 13 => .ok (.ld5 a f)
  | 14 => .ok (.ld6 a f)
  | 15 => .ok (.ldx a f)
  | 16 => .ok (.ldan a f)
  | 17 => .ok (.ld1n a f)
  | 18 => .ok (.ld2n a f)
  | 19 => .ok (.ld3n a f)
  | 20 => .ok (.ld4n a f)
  | 21 => .ok (.ld5n a f)
  | 22 => .ok (.ld6n a f)
  | 23 => .ok (.ldxn a f)
  | 24 => .ok (.sta a f)
  | 25 => .ok (.st1 a f)
  | 26 => .ok (.st2 a f)
  | 27 => .ok (.st3 a f)
  | 28 => .ok (.st4 a f)
  | 29 => .ok (.st5 a f)
  | 30 => .ok (.st6 a f)
  | 31 => .ok (.stx a f)
  | 32 => .ok (.stj a f)
  | 33 => .ok (.stz a f)
  | 34 => .ok (.jbus a f)
  | 35 => .ok (.ioc a f)
  | 36 => .ok (.in_ a f)
  | 37 => .ok (.out a f)
  | 38 => .ok (.jred a f)
  | 39 =>
    match f.toNat with
    | 0 => .ok (.jmp a)
    | 1 => .ok (.jsj a)
    | 2 => .ok (.jov a)
    | 3 => .ok (.jnov a)
    | 4 => .ok (.jl a)
    | 5 => .ok (.je a)
    | 6 => .ok (.jg a)
    | 7 => .ok (.jge a)
    | 8 => .ok (.jne a)
    | 9 => .ok (.jle a)
    | _ => .error (.illegalJump 39 f a)
  | 40 =>
    match f.toNat with
    | 0 => .ok (.jan a)
    | 1 => .ok (.jaz a)
    | 2 => .ok (.jap a)
    | 3 => .ok (.jann a)
    | 4 => .ok (.janz a)
    | 5 => .ok (.janp a)
    | _ => .error (.illegalJump 40 f a)
  | 41 =>
    match f.toNat with
    | 0 => .ok (.j1n a)
    | 1 => .ok (.j1z a)
    | 2 => .ok (.j1p a)
    | 3 => .ok (.j1nn a)
    | 4 => .ok (.j1nz a)
    | 5 => .ok (.j1np a)
    | _ => .error (.illegalJump 41 f a)
  | 42 =>
    match f.toNat with
    | 0 => .ok (.j2n a)
    | 1 => .ok (.j2z a)
    | 2 => .ok (.j2p a)
    | 3 => .ok (.j2nn a)
    | 4 => .ok (.j2nz a)
    | 5 => .ok (.j2np a)
    | _ => .error (.illegalJump 42 f a)
  | 43 =>
    match f.toNat with
    | 0 => .ok (.j3n a)
    | 1 => .ok (.j3z a)
    | 2 => .ok (.j3p a)
    | 3 => .ok (.j3nn a)
    | 4 => .ok (.j3nz a)
    | 5 => .ok (.j3np a)
    | _ => .error (.illegalJump 43 f a)
  | 44 =>
    match f.toNat with
    | 0 => .ok (.j4n a)
    | 1 => .ok (.j4z a)
    | 2 => .ok (.j4p a)
    | 3 => .ok (.j4nn a)
    | 4 => .ok (.j4nz a)
    | 5 => .ok (.j4np a)
    | _ => .error (.illegalJump 44 f a)
  | 45 =>
    match f.toNat with
    | 0 => .ok (.j5n a)
    | 1 => .ok (.j5z a)
    | 2 => .ok (.j5p a)
    | 3 => .ok (.j5nn a)
    | 4 => .ok (.j5nz a)
    | 5 => .ok (.j5np a)
    | _ => .error (.illegalJump 45 f a)
  | 46 =>
    match f.toNat with
    | 0 => .ok (.j6n a)
    | 1 => .ok (.j6z a)
    | 2 => .ok (.j6p a)
    | 3 => .ok (.j6nn a)
    | 4 => .ok (.j6nz a)
    | 5 => .ok (.j6np a)
    | _ => .error (.illegalJump 46 f a)
  | 47 =>
    match f.toNat with
    | 0 => .ok (.jxn a)
    | 1 => .ok (.jxz a)
    | 2 => .ok (.jxp a)
    | 3 => .ok (.jxnn a)
    | 4 => .ok (.jxnz a)
    | 5 => .ok (.jxnp a)
    | _ => .error (.illegalJump 47 f a)
  | 48 =>
    match f.toNat with
    | 0 => .ok (.inca a)
    | 1 => .ok (.deca a)
    | 2 => .ok (.enta a)
    | 3 => .ok (.enna a)
    | _ => .error (.invalidFieldSpec f)
  | 49 =>
    match f.toNat with
    | 0 => .ok (.inc1 a)
    | 1 => .ok (.dec1 a)
    | 2 => .ok (.ent1 a)
    | 3 => .ok (.enn1 a)
    | _ => .error (.invalidFieldSpec f)
  | 50 =>
    match f.toNat with
    | 0 => .ok (.inc2 a)
    | 1 => .ok (.dec2 a)
    | 2 => .ok (.ent2 a)
    | 3 => .ok (.enn2 a)
    | _ => .error (.invalidFieldSpec f)
  | 51 =>
    match f.toNat with
    | 0 => .ok (.inc3 a)
    | 1 => .ok (.dec3 a)
    | 2 => .ok (.ent3 a)
    | 3 => .ok (.enn3 a)
    | _ => .error (.invalidFieldSpec f)
  | 52 =>
    match f.toNat with
    | 0 => .ok (.inc4 a)
    | 1 => .ok (.dec4 a)
    | 2 => .ok (.ent4 a)
    | 3 => .ok (.enn4 a)
    | _ => .error (.invalidFieldSpec f)
  | 53 =>
    match f.toNat with
    | 0 => .ok (.inc5 a)
    | 1 => .ok (.dec5 a)
    | 2 => .ok (.ent5 a)
    | 3 => .ok (.enn5 a)
    | _ => .error (.invalidFieldSpec f)
  | 54 =>
    match f.toNat with
    | 0 => .ok (.inc6 a)
    | 1 => .ok (.dec6 a)
    | 2 => .ok (.ent6 a)
    | 3 => .ok (.enn6 a)
    | _ => .error (.invalidFieldSpec f)
  | 55 =>
    match f.toNat with
    | 0 => .ok (.incx a)
    | 1 => .ok (.decx a)
    | 2 => .ok (.entx a)
    | 3 => .ok (.ennx a)
    | _ => .error (.invalidFieldSpec f)
  | 56 => .ok (.cmpa a f)
  | 57 => .ok (.cmp1 a f)
  | 58 => .ok (.cmp2 a f)
  | 59 => .ok (.cmp3 a f)
  | 60 => .ok (.cmp4 a f)
  | 61 => .ok (.cmp5 a f)
  | 62 => .ok (.cmp6 a f)
  | 63 => .ok (.cmpx a f)
  | _ => .error (.invalidFieldSpec f) -- no seventh bit: C is at most 63

/-- The decoder: it reads only the fetched word (30 R79). -/
def decode (w : Word) : Except Reject Instr := decodeFields (opcodeOf w) (fieldOf w) (addrOf w)

/-! ### Encoding -/

/-- The word of an instruction (30 R76, R88). -/
def encode : Instr → Word
  | .add a f => pack a f 1
  | .sub a f => pack a f 2
  | .mul a f => pack a f 3
  | .div a f => pack a f 4
  | .sla a => pack a 0 6
  | .sra a => pack a 1 6
  | .slax a => pack a 2 6
  | .srax a => pack a 3 6
  | .slc a => pack a 4 6
  | .src a => pack a 5 6
  | .move a count => pack a count 7
  | .lda a f => pack a f 8
  | .ld1 a f => pack a f 9
  | .ld2 a f => pack a f 10
  | .ld3 a f => pack a f 11
  | .ld4 a f => pack a f 12
  | .ld5 a f => pack a f 13
  | .ld6 a f => pack a f 14
  | .ldx a f => pack a f 15
  | .ldan a f => pack a f 16
  | .ld1n a f => pack a f 17
  | .ld2n a f => pack a f 18
  | .ld3n a f => pack a f 19
  | .ld4n a f => pack a f 20
  | .ld5n a f => pack a f 21
  | .ld6n a f => pack a f 22
  | .ldxn a f => pack a f 23
  | .sta a f => pack a f 24
  | .st1 a f => pack a f 25
  | .st2 a f => pack a f 26
  | .st3 a f => pack a f 27
  | .st4 a f => pack a f 28
  | .st5 a f => pack a f 29
  | .st6 a f => pack a f 30
  | .stx a f => pack a f 31
  | .stj a f => pack a f 32
  | .stz a f => pack a f 33
  | .jmp a => pack a 0 39
  | .jsj a => pack a 1 39
  | .jov a => pack a 2 39
  | .jnov a => pack a 3 39
  | .jl a => pack a 4 39
  | .je a => pack a 5 39
  | .jg a => pack a 6 39
  | .jge a => pack a 7 39
  | .jne a => pack a 8 39
  | .jle a => pack a 9 39
  | .jan a => pack a 0 40
  | .jaz a => pack a 1 40
  | .jap a => pack a 2 40
  | .jann a => pack a 3 40
  | .janz a => pack a 4 40
  | .janp a => pack a 5 40
  | .j1n a => pack a 0 41
  | .j1z a => pack a 1 41
  | .j1p a => pack a 2 41
  | .j1nn a => pack a 3 41
  | .j1nz a => pack a 4 41
  | .j1np a => pack a 5 41
  | .j2n a => pack a 0 42
  | .j2z a => pack a 1 42
  | .j2p a => pack a 2 42
  | .j2nn a => pack a 3 42
  | .j2nz a => pack a 4 42
  | .j2np a => pack a 5 42
  | .j3n a => pack a 0 43
  | .j3z a => pack a 1 43
  | .j3p a => pack a 2 43
  | .j3nn a => pack a 3 43
  | .j3nz a => pack a 4 43
  | .j3np a => pack a 5 43
  | .j4n a => pack a 0 44
  | .j4z a => pack a 1 44
  | .j4p a => pack a 2 44
  | .j4nn a => pack a 3 44
  | .j4nz a => pack a 4 44
  | .j4np a => pack a 5 44
  | .j5n a => pack a 0 45
  | .j5z a => pack a 1 45
  | .j5p a => pack a 2 45
  | .j5nn a => pack a 3 45
  | .j5nz a => pack a 4 45
  | .j5np a => pack a 5 45
  | .j6n a => pack a 0 46
  | .j6z a => pack a 1 46
  | .j6p a => pack a 2 46
  | .j6nn a => pack a 3 46
  | .j6nz a => pack a 4 46
  | .j6np a => pack a 5 46
  | .jxn a => pack a 0 47
  | .jxz a => pack a 1 47
  | .jxp a => pack a 2 47
  | .jxnn a => pack a 3 47
  | .jxnz a => pack a 4 47
  | .jxnp a => pack a 5 47
  | .inca a => pack a 0 48
  | .deca a => pack a 1 48
  | .enta a => pack a 2 48
  | .enna a => pack a 3 48
  | .inc1 a => pack a 0 49
  | .dec1 a => pack a 1 49
  | .ent1 a => pack a 2 49
  | .enn1 a => pack a 3 49
  | .inc2 a => pack a 0 50
  | .dec2 a => pack a 1 50
  | .ent2 a => pack a 2 50
  | .enn2 a => pack a 3 50
  | .inc3 a => pack a 0 51
  | .dec3 a => pack a 1 51
  | .ent3 a => pack a 2 51
  | .enn3 a => pack a 3 51
  | .inc4 a => pack a 0 52
  | .dec4 a => pack a 1 52
  | .ent4 a => pack a 2 52
  | .enn4 a => pack a 3 52
  | .inc5 a => pack a 0 53
  | .dec5 a => pack a 1 53
  | .ent5 a => pack a 2 53
  | .enn5 a => pack a 3 53
  | .inc6 a => pack a 0 54
  | .dec6 a => pack a 1 54
  | .ent6 a => pack a 2 54
  | .enn6 a => pack a 3 54
  | .incx a => pack a 0 55
  | .decx a => pack a 1 55
  | .entx a => pack a 2 55
  | .ennx a => pack a 3 55
  | .cmpa a f => pack a f 56
  | .cmp1 a f => pack a f 57
  | .cmp2 a f => pack a f 58
  | .cmp3 a f => pack a f 59
  | .cmp4 a f => pack a f 60
  | .cmp5 a f => pack a f 61
  | .cmp6 a f => pack a f 62
  | .cmpx a f => pack a f 63
  | .nop a f => pack a f 0
  | .num a => pack a 0 5
  | .char a => pack a 1 5
  | .hlt a => pack a 2 5
  | .opcode5Other a f => pack a f 5
  | .jbus a f => pack a f 34
  | .ioc a f => pack a f 35
  | .in_ a f => pack a f 36
  | .out a f => pack a f 37
  | .jred a f => pack a f 38

/-- The failure of the host's encoder (92 D21). -/
inductive EncodeError where
  /-- A sub-field exceeds its bit width. A host helper's error, no fault of the core. -/
  | encodeRangeError
deriving DecidableEq, Repr

/-- The host's encoder: it builds the word of five field values and rejects any that exceeds its bit width. It checks
widths only (30 R88, 70 R408). -/
def hostEncode (s aa i f c : Nat) : Except EncodeError Word :=
  if s < 2 ∧ aa < 4096 ∧ i < 64 ∧ f < 64 ∧ c < 64 then
    .ok (BitVec.ofNat 31 (s * 2 ^ 30 + aa * 2 ^ 18 + i * 2 ^ 12 + f * 2 ^ 6 + c))
  else .error .encodeRangeError

/-- The instruction the decoder reads from the `nbits` bits of `w`, bit 0 the least significant, as the opcode table
numbers them. A MIX word has bits 30..0; a number that needs bit 31 is no word and is refused (log 7). -/
def decodeTableWord (nbits w : Nat) : Option Instr :=
  if w % 2 ^ nbits < 2 ^ 31 then (decode (BitVec.ofNat 31 (w % 2 ^ nbits))).toOption else none

end Sys2Proof
end

