-- ==== Sys2Proof/Machine/Jump.lean ====
section
/-! DEFINITION. Jump (47), and the words the decoder hands over without an instruction (47 R275, 30 R86, R87). -/

namespace Sys2Proof.Machine

/-- The condition of a sub-mode; none for an illegal one. `r` is the register of opcodes 40..47, none for opcode 39
(47 R276). -/
def jumpCondition (r : Option Reg) (sub : Nat) (s : State) : Option Bool :=
  match sub with
  | 0 => some true
  | 1 => some true
  | 2 => some s.ot
  | 3 => some (!s.ot)
  | _ => condition sub (match r with | none => s.ci | some r => regState (s.readReg r))

/-- `J <- narrow(+PC)`, for every sub-mode but 1 (47 R271). PC is at most 4000 here, so the narrowing never fails. -/
def saveReturn (sub : Nat) (s : State) : Except FaultCause State :=
  if sub = 1 then .ok s else s.writeReg .j (mkword false s.pc.toNat)

/-- Sub-modes 2 and 3 clear OT, taken or not (47 R272). -/
def clearOverflow (sub : Nat) (s : State) : State := if sub = 2 ∨ sub = 3 then s.setOt false else s

/-- The handler of every jump (47 R276): EA, then the return address, then the condition, then the branch. An illegal
sub-mode faults after J is written (47 R275). `f` is the F the fault records. -/
def jumpOp (r : Option Reg) (sub : Nat) (f : Byte) (a : Addr) (s : State) : Outcome :=
  match effectiveAddress a s with
  | .error c => raise c s
  | .ok e =>
    match saveReturn sub s with
    | .error c => raise c s
    | .ok t =>
      match jumpCondition r sub t with
      | none => raise (.invalidFieldSpec f) t
      | some true => .next ((clearOverflow sub t).setPc (BitVec.ofNat 13 e))
      | some false => .next (clearOverflow sub t)

/-- The register an opcode in 40..47 tests; none for opcode 39 (30 R75). -/
def jumpRegister (c : Byte) : Option Reg :=
  match c.toNat with
  | 40 => some .a
  | 41 => some .i1
  | 42 => some .i2
  | 43 => some .i3
  | 44 => some .i4
  | 45 => some .i5
  | 46 => some .i6
  | 47 => some .x
  | _ => none

/-- The sub-mode of a jump word: F for opcode 39, F + 4 for opcodes 40..47 (30 R79). -/
def jumpSubmode (c f : Byte) : Nat := if c.toNat = 39 then f.toNat else f.toNat + 4

/-- What the step does with a word that is no instruction of the table: a decode fault, or the jump handler on an
illegal sub-mode (41 R132, 47 R275; log 5). -/
def raiseReject (q : Reject) (s : State) : Outcome :=
  match q with
  | .invalidFieldSpec f => raise (.invalidFieldSpec f) s
  | .illegalJump c f a => jumpOp (jumpRegister c) (jumpSubmode c f) f a s

/-- JMP (47 R280). -/
def execJmp (a : Addr) (s : State) : Outcome := jumpOp none 0 0 a s

/-- JSJ (47 R281). -/
def execJsj (a : Addr) (s : State) : Outcome := jumpOp none 1 1 a s

/-- JOV (47 R282). -/
def execJov (a : Addr) (s : State) : Outcome := jumpOp none 2 2 a s

/-- JNOV (47 R283). -/
def execJnov (a : Addr) (s : State) : Outcome := jumpOp none 3 3 a s

/-- JL (47 R284). -/
def execJl (a : Addr) (s : State) : Outcome := jumpOp none 4 4 a s

/-- JE (47 R285). -/
def execJe (a : Addr) (s : State) : Outcome := jumpOp none 5 5 a s

/-- JG (47 R286). -/
def execJg (a : Addr) (s : State) : Outcome := jumpOp none 6 6 a s

/-- JGE (47 R287). -/
def execJge (a : Addr) (s : State) : Outcome := jumpOp none 7 7 a s

/-- JNE (47 R288). -/
def execJne (a : Addr) (s : State) : Outcome := jumpOp none 8 8 a s

/-- JLE (47 R289). -/
def execJle (a : Addr) (s : State) : Outcome := jumpOp none 9 9 a s

/-- JAN (47 R290). -/
def execJan (a : Addr) (s : State) : Outcome := jumpOp (some .a) 4 0 a s

/-- JAZ (47 R291). -/
def execJaz (a : Addr) (s : State) : Outcome := jumpOp (some .a) 5 1 a s

/-- JAP (47 R292). -/
def execJap (a : Addr) (s : State) : Outcome := jumpOp (some .a) 6 2 a s

/-- JANN (47 R293). -/
def execJann (a : Addr) (s : State) : Outcome := jumpOp (some .a) 7 3 a s

/-- JANZ (47 R294). -/
def execJanz (a : Addr) (s : State) : Outcome := jumpOp (some .a) 8 4 a s

/-- JANP (47 R295). -/
def execJanp (a : Addr) (s : State) : Outcome := jumpOp (some .a) 9 5 a s

/-- J1N (47 R296). -/
def execJ1n (a : Addr) (s : State) : Outcome := jumpOp (some .i1) 4 0 a s

/-- J1Z (47 R297). -/
def execJ1z (a : Addr) (s : State) : Outcome := jumpOp (some .i1) 5 1 a s

/-- J1P (47 R298). -/
def execJ1p (a : Addr) (s : State) : Outcome := jumpOp (some .i1) 6 2 a s

/-- J1NN (47 R299). -/
def execJ1nn (a : Addr) (s : State) : Outcome := jumpOp (some .i1) 7 3 a s

/-- J1NZ (47 R300). -/
def execJ1nz (a : Addr) (s : State) : Outcome := jumpOp (some .i1) 8 4 a s

/-- J1NP (47 R301). -/
def execJ1np (a : Addr) (s : State) : Outcome := jumpOp (some .i1) 9 5 a s

/-- J2N (47 R302). -/
def execJ2n (a : Addr) (s : State) : Outcome := jumpOp (some .i2) 4 0 a s

/-- J2Z (47 R303). -/
def execJ2z (a : Addr) (s : State) : Outcome := jumpOp (some .i2) 5 1 a s

/-- J2P (47 R304). -/
def execJ2p (a : Addr) (s : State) : Outcome := jumpOp (some .i2) 6 2 a s

/-- J2NN (47 R305). -/
def execJ2nn (a : Addr) (s : State) : Outcome := jumpOp (some .i2) 7 3 a s

/-- J2NZ (47 R306). -/
def execJ2nz (a : Addr) (s : State) : Outcome := jumpOp (some .i2) 8 4 a s

/-- J2NP (47 R307). -/
def execJ2np (a : Addr) (s : State) : Outcome := jumpOp (some .i2) 9 5 a s

/-- J3N (47 R308). -/
def execJ3n (a : Addr) (s : State) : Outcome := jumpOp (some .i3) 4 0 a s

/-- J3Z (47 R309). -/
def execJ3z (a : Addr) (s : State) : Outcome := jumpOp (some .i3) 5 1 a s

/-- J3P (47 R310). -/
def execJ3p (a : Addr) (s : State) : Outcome := jumpOp (some .i3) 6 2 a s

/-- J3NN (47 R311). -/
def execJ3nn (a : Addr) (s : State) : Outcome := jumpOp (some .i3) 7 3 a s

/-- J3NZ (47 R312). -/
def execJ3nz (a : Addr) (s : State) : Outcome := jumpOp (some .i3) 8 4 a s

/-- J3NP (47 R313). -/
def execJ3np (a : Addr) (s : State) : Outcome := jumpOp (some .i3) 9 5 a s

/-- J4N (47 R314). -/
def execJ4n (a : Addr) (s : State) : Outcome := jumpOp (some .i4) 4 0 a s

/-- J4Z (47 R315). -/
def execJ4z (a : Addr) (s : State) : Outcome := jumpOp (some .i4) 5 1 a s

/-- J4P (47 R316). -/
def execJ4p (a : Addr) (s : State) : Outcome := jumpOp (some .i4) 6 2 a s

/-- J4NN (47 R317). -/
def execJ4nn (a : Addr) (s : State) : Outcome := jumpOp (some .i4) 7 3 a s

/-- J4NZ (47 R318). -/
def execJ4nz (a : Addr) (s : State) : Outcome := jumpOp (some .i4) 8 4 a s

/-- J4NP (47 R319). -/
def execJ4np (a : Addr) (s : State) : Outcome := jumpOp (some .i4) 9 5 a s

/-- J5N (47 R320). -/
def execJ5n (a : Addr) (s : State) : Outcome := jumpOp (some .i5) 4 0 a s

/-- J5Z (47 R321). -/
def execJ5z (a : Addr) (s : State) : Outcome := jumpOp (some .i5) 5 1 a s

/-- J5P (47 R322). -/
def execJ5p (a : Addr) (s : State) : Outcome := jumpOp (some .i5) 6 2 a s

/-- J5NN (47 R323). -/
def execJ5nn (a : Addr) (s : State) : Outcome := jumpOp (some .i5) 7 3 a s

/-- J5NZ (47 R324). -/
def execJ5nz (a : Addr) (s : State) : Outcome := jumpOp (some .i5) 8 4 a s

/-- J5NP (47 R325). -/
def execJ5np (a : Addr) (s : State) : Outcome := jumpOp (some .i5) 9 5 a s

/-- J6N (47 R326). -/
def execJ6n (a : Addr) (s : State) : Outcome := jumpOp (some .i6) 4 0 a s

/-- J6Z (47 R327). -/
def execJ6z (a : Addr) (s : State) : Outcome := jumpOp (some .i6) 5 1 a s

/-- J6P (47 R328). -/
def execJ6p (a : Addr) (s : State) : Outcome := jumpOp (some .i6) 6 2 a s

/-- J6NN (47 R329). -/
def execJ6nn (a : Addr) (s : State) : Outcome := jumpOp (some .i6) 7 3 a s

/-- J6NZ (47 R330). -/
def execJ6nz (a : Addr) (s : State) : Outcome := jumpOp (some .i6) 8 4 a s

/-- J6NP (47 R331). -/
def execJ6np (a : Addr) (s : State) : Outcome := jumpOp (some .i6) 9 5 a s

/-- JXN (47 R332). -/
def execJxn (a : Addr) (s : State) : Outcome := jumpOp (some .x) 4 0 a s

/-- JXZ (47 R333). -/
def execJxz (a : Addr) (s : State) : Outcome := jumpOp (some .x) 5 1 a s

/-- JXP (47 R334). -/
def execJxp (a : Addr) (s : State) : Outcome := jumpOp (some .x) 6 2 a s

/-- JXNN (47 R335). -/
def execJxnn (a : Addr) (s : State) : Outcome := jumpOp (some .x) 7 3 a s

/-- JXNZ (47 R336). -/
def execJxnz (a : Addr) (s : State) : Outcome := jumpOp (some .x) 8 4 a s

/-- JXNP (47 R337). -/
def execJxnp (a : Addr) (s : State) : Outcome := jumpOp (some .x) 9 5 a s

end Sys2Proof.Machine
end

