-- ==== Sys2Proof/Machine/Load.lean ====
section
/-! DEFINITION. Load and Load-Negative (42). -/

namespace Sys2Proof.Machine

/-- The handler of every load: the field of the word at EA, negated if asked, into the register `r`. All checks come
before the write (42 R150). -/
def loadOp (r : Reg) (negative : Bool) (a : Addr) (f : Byte) (s : State) : Except FaultCause State := do
  let v ← fieldOperand a f s
  s.writeReg r (if negative then negate v else v)

/-- LDA (42 R152). -/
def execLda (a : Addr) (f : Byte) (s : State) : Outcome := conclude s (loadOp .a false a f s)

/-- LD1 (42 R153). -/
def execLd1 (a : Addr) (f : Byte) (s : State) : Outcome := conclude s (loadOp .i1 false a f s)

/-- LD2 (42 R154). -/
def execLd2 (a : Addr) (f : Byte) (s : State) : Outcome := conclude s (loadOp .i2 false a f s)

/-- LD3 (42 R155). -/
def execLd3 (a : Addr) (f : Byte) (s : State) : Outcome := conclude s (loadOp .i3 false a f s)

/-- LD4 (42 R156). -/
def execLd4 (a : Addr) (f : Byte) (s : State) : Outcome := conclude s (loadOp .i4 false a f s)

/-- LD5 (42 R157). -/
def execLd5 (a : Addr) (f : Byte) (s : State) : Outcome := conclude s (loadOp .i5 false a f s)

/-- LD6 (42 R158). -/
def execLd6 (a : Addr) (f : Byte) (s : State) : Outcome := conclude s (loadOp .i6 false a f s)

/-- LDX (42 R159). -/
def execLdx (a : Addr) (f : Byte) (s : State) : Outcome := conclude s (loadOp .x false a f s)

/-- LDAN (42 R160). -/
def execLdan (a : Addr) (f : Byte) (s : State) : Outcome := conclude s (loadOp .a true a f s)

/-- LD1N (42 R161). -/
def execLd1n (a : Addr) (f : Byte) (s : State) : Outcome := conclude s (loadOp .i1 true a f s)

/-- LD2N (42 R162). -/
def execLd2n (a : Addr) (f : Byte) (s : State) : Outcome := conclude s (loadOp .i2 true a f s)

/-- LD3N (42 R163). -/
def execLd3n (a : Addr) (f : Byte) (s : State) : Outcome := conclude s (loadOp .i3 true a f s)

/-- LD4N (42 R164). -/
def execLd4n (a : Addr) (f : Byte) (s : State) : Outcome := conclude s (loadOp .i4 true a f s)

/-- LD5N (42 R165). -/
def execLd5n (a : Addr) (f : Byte) (s : State) : Outcome := conclude s (loadOp .i5 true a f s)

/-- LD6N (42 R166). -/
def execLd6n (a : Addr) (f : Byte) (s : State) : Outcome := conclude s (loadOp .i6 true a f s)

/-- LDXN (42 R167). -/
def execLdxn (a : Addr) (f : Byte) (s : State) : Outcome := conclude s (loadOp .x true a f s)

end Sys2Proof.Machine
end

