-- ==== Sys2Proof/Machine/Move.lean ====
section
/-! DEFINITION. Move (49). -/

namespace Sys2Proof.Machine

/-- Copies n words in ascending order, one at a time, each read seeing the writes before it (49 R362). -/
def copyWords (m : Memory) (src dst : Nat) : Nat → Memory
  | 0 => m
  | n + 1 => copyWords (m.write dst (m.read src)) (src + 1) (dst + 1) n

/-- The handler of MOVE: count 0 does nothing; otherwise both whole ranges are checked, then copied, then I1 advances
by the count (49 R360, R361). -/
def moveOp (a : Addr) (count : Byte) (s : State) : Except FaultCause State := do
  let src ← effectiveAddress a s
  let n := count.toNat
  if n = 0 then .ok s
  else
    let d := toInt (s.readReg .i1)
    if 4000 < src + n ∨ d < 0 ∨ 4000 < d + n then .error (.invalidAddress (.move src d n))
    else (s.setMem (copyWords s.mem src d.toNat n)).writeReg .i1 (mkword false (d.toNat + n))

/-- MOVE (49 R360). -/
def execMove (a : Addr) (count : Byte) (s : State) : Outcome := conclude s (moveOp a count s)

end Sys2Proof.Machine
end

