-- ==== Sys2Proof/Machine/Shift.lean ====
section
/-! DEFINITION. Shift (48). The distance is EA, a count of bytes; signs never change. -/

namespace Sys2Proof.Machine

/-- `64^n` with n held to 10, the number of bytes of A:X: a plain shift by more clears what a shift by 10 clears
(48 R340). Without the bound a distance of 8190 would make numbers of 49000 bits (log 11). -/
def bytePower (n : Nat) : Nat := 64 ^ min n 10

/-- `A:X`, the ten-byte value (48, notation). -/
def State.pairAX (s : State) : Nat := mag s.regA * 2 ^ 30 + mag s.regX

/-- `AX <- v`: the magnitudes of A and X replaced, both signs kept (48, notation). -/
def State.setPairAX (s : State) (v : Nat) : State :=
  (s.setA (mkword (sign s.regA) (v / 2 ^ 30))).setX (mkword (sign s.regX) (v % 2 ^ 30))

/-- SLA by n bytes (48 R340). -/
def shiftLeftA (n : Nat) (s : State) : State := s.setA (mkword (sign s.regA) (mag s.regA * bytePower n % 2 ^ 30))

/-- SRA by n bytes (48 R340). -/
def shiftRightA (n : Nat) (s : State) : State := s.setA (mkword (sign s.regA) (mag s.regA / bytePower n))

/-- SLAX by n bytes (48 R340). -/
def shiftLeftAX (n : Nat) (s : State) : State := s.setPairAX (s.pairAX * bytePower n % 2 ^ 60)

/-- SRAX by n bytes (48 R340). -/
def shiftRightAX (n : Nat) (s : State) : State := s.setPairAX (s.pairAX / bytePower n)

/-- SLC by n bytes: k = n mod 10 (48 R340). -/
def rotateLeftAX (n : Nat) (s : State) : State :=
  s.setPairAX (s.pairAX * 64 ^ (n % 10) % 2 ^ 60 + s.pairAX / 64 ^ (10 - n % 10))

/-- SRC by n bytes: k = n mod 10 (48 R340). -/
def rotateRightAX (n : Nat) (s : State) : State :=
  s.setPairAX (s.pairAX / 64 ^ (n % 10) + s.pairAX * 64 ^ (10 - n % 10) % 2 ^ 60)

/-- The handler of every shift: the distance is EA; no memory access (48 R340). -/
def shiftOp (shift : Nat → State → State) (a : Addr) (s : State) : Except FaultCause State := do
  let n ← effectiveAddress a s
  .ok (shift n s)

/-- SLA (48 R341). -/
def execSla (a : Addr) (s : State) : Outcome := conclude s (shiftOp shiftLeftA a s)

/-- SRA (48 R342). -/
def execSra (a : Addr) (s : State) : Outcome := conclude s (shiftOp shiftRightA a s)

/-- SLAX (48 R343). -/
def execSlax (a : Addr) (s : State) : Outcome := conclude s (shiftOp shiftLeftAX a s)

/-- SRAX (48 R344). -/
def execSrax (a : Addr) (s : State) : Outcome := conclude s (shiftOp shiftRightAX a s)

/-- SLC (48 R345). -/
def execSlc (a : Addr) (s : State) : Outcome := conclude s (shiftOp rotateLeftAX a s)

/-- SRC (48 R346). -/
def execSrc (a : Addr) (s : State) : Outcome := conclude s (shiftOp rotateRightAX a s)

end Sys2Proof.Machine
end

