-- ==== Sys2Proof/Machine/Store.lean ====
section
/-! DEFINITION. Store (43). -/

namespace Sys2Proof.Machine

/-- The handler of every store: `v`, the source register's word or `+0`, embedded into a field of the word at EA. The
one write is the last action (43 R170). -/
def storeOp (v : Word) (a : Addr) (f : Byte) (s : State) : Except FaultCause State := do
  let e ← effectiveAddress a s
  let old ← s.memRead e
  let new ← embedFromField v old f
  s.memWrite e new

/-- STA (43 R172). -/
def execSta (a : Addr) (f : Byte) (s : State) : Outcome := conclude s (storeOp (s.readReg .a) a f s)

/-- ST1 (43 R173). -/
def execSt1 (a : Addr) (f : Byte) (s : State) : Outcome := conclude s (storeOp (s.readReg .i1) a f s)

/-- ST2 (43 R174). -/
def execSt2 (a : Addr) (f : Byte) (s : State) : Outcome := conclude s (storeOp (s.readReg .i2) a f s)

/-- ST3 (43 R175). -/
def execSt3 (a : Addr) (f : Byte) (s : State) : Outcome := conclude s (storeOp (s.readReg .i3) a f s)

/-- ST4 (43 R176). -/
def execSt4 (a : Addr) (f : Byte) (s : State) : Outcome := conclude s (storeOp (s.readReg .i4) a f s)

/-- ST5 (43 R177). -/
def execSt5 (a : Addr) (f : Byte) (s : State) : Outcome := conclude s (storeOp (s.readReg .i5) a f s)

/-- ST6 (43 R178). -/
def execSt6 (a : Addr) (f : Byte) (s : State) : Outcome := conclude s (storeOp (s.readReg .i6) a f s)

/-- STX (43 R179). -/
def execStx (a : Addr) (f : Byte) (s : State) : Outcome := conclude s (storeOp (s.readReg .x) a f s)

/-- STJ (43 R180). -/
def execStj (a : Addr) (f : Byte) (s : State) : Outcome := conclude s (storeOp (s.readReg .j) a f s)

/-- STZ (43 R181). -/
def execStz (a : Addr) (f : Byte) (s : State) : Outcome := conclude s (storeOp 0 a f s)

end Sys2Proof.Machine
end

