-- ==== Sys2Proof/Machine/Unimplemented.lean ====
section
/-! DEFINITION. The opcodes the spec leaves unimplemented (30 R84, 60 R379): each faults with UnknownOpcode and its
(C, F), before its index spec is looked at, and changes nothing but the PC that the step has already advanced. -/

namespace Sys2Proof.Machine

/-- UnknownOpcode with the info (C, F) (30 R84). -/
def unknownOp (c f : Byte) (s : State) : Outcome := raise (.unknownOpcode c f) s

/-- NOP (30 R84). -/
def execNop (_ : Addr) (f : Byte) (s : State) : Outcome := unknownOp 0 f s

/-- NUM (30 R84). -/
def execNum (_ : Addr) (s : State) : Outcome := unknownOp 5 0 s

/-- CHAR (30 R84). -/
def execChar (_ : Addr) (s : State) : Outcome := unknownOp 5 1 s

/-- HLT (30 R84). -/
def execHlt (_ : Addr) (s : State) : Outcome := unknownOp 5 2 s

/-- Opcode 5 with F >= 3 (30 R84). -/
def execOpcode5Other (_ : Addr) (f : Byte) (s : State) : Outcome := unknownOp 5 f s

/-- JBUS (30 R84). -/
def execJbus (_ : Addr) (f : Byte) (s : State) : Outcome := unknownOp 34 f s

/-- IOC (30 R84). -/
def execIoc (_ : Addr) (f : Byte) (s : State) : Outcome := unknownOp 35 f s

/-- IN (30 R84). -/
def execIn (_ : Addr) (f : Byte) (s : State) : Outcome := unknownOp 36 f s

/-- OUT (30 R84). -/
def execOut (_ : Addr) (f : Byte) (s : State) : Outcome := unknownOp 37 f s

/-- JRED (30 R84). -/
def execJred (_ : Addr) (f : Byte) (s : State) : Outcome := unknownOp 38 f s

end Sys2Proof.Machine
end

