-- ==== Sys2Proof/Machine/Step.lean ====
section
/-! DEFINITION. The step (41 R139), and placing an instruction where the step fetches. -/

namespace Sys2Proof.Machine

/-- One step: fetch, advance PC, decode, dispatch (41 R130 to R132, R139). A fetch fault leaves the state unchanged;
everything later sees PC advanced. -/
def step (s : State) : Host.Outcome State Fault Refusal :=
  match s.fetch with
  | .error c => raise c s
  | .ok w =>
    match decode w with
    | .ok i => exec i s.advancePc
    | .error q => raiseReject q s.advancePc

/-- `s` with the word `w` where the next step fetches, so that the step runs it: Mem[PC], or address 0 with PC 0 when
PC is out of range. A number that is no 31-bit word cannot be stored and changes nothing (log 7, log 8). -/
def State.withFetchWord (s : State) (nbits w : Nat) : State :=
  if w % 2 ^ nbits < 2 ^ 31 then
    if s.pc.toNat < 4000 then s.setMem (s.mem.write s.pc.toNat (BitVec.ofNat 31 (w % 2 ^ nbits)))
    else (s.setMem (s.mem.write 0 (BitVec.ofNat 31 (w % 2 ^ nbits)))).setPc 0
  else s

end Sys2Proof.Machine
end

