-- ==== Sys2Proof/Machine/Families.lean ====
section
/-! DEFINITION. The families of the opcode table, instruction by instruction, as the statements name them. They are
written from the rules, not from the meanings, and no meaning uses them. -/

namespace Sys2Proof.Machine

/-- The loads: instruction, target register, whether the value is negated (42 R152 to R167). -/
def loads (a : Addr) (f : Byte) : List (Instr × Reg × Bool) :=
  [(.lda a f, .a, false), (.ld1 a f, .i1, false), (.ld2 a f, .i2, false), (.ld3 a f, .i3, false),
   (.ld4 a f, .i4, false), (.ld5 a f, .i5, false), (.ld6 a f, .i6, false), (.ldx a f, .x, false),
   (.ldan a f, .a, true), (.ld1n a f, .i1, true), (.ld2n a f, .i2, true), (.ld3n a f, .i3, true),
   (.ld4n a f, .i4, true), (.ld5n a f, .i5, true), (.ld6n a f, .i6, true), (.ldxn a f, .x, true)]

/-- The stores: instruction, source register, none for the literal +0 of STZ (43 R172 to R181). -/
def stores (a : Addr) (f : Byte) : List (Instr × Option Reg) :=
  [(.sta a f, some .a), (.st1 a f, some .i1), (.st2 a f, some .i2), (.st3 a f, some .i3), (.st4 a f, some .i4),
   (.st5 a f, some .i5), (.st6 a f, some .i6), (.stx a f, some .x), (.stj a f, some .j), (.stz a f, none)]

/-- The arithmetic instructions (44 R191 to R194). -/
def arithmetics (a : Addr) (f : Byte) : List Instr := [.add a f, .sub a f, .mul a f, .div a f]

/-- The enters, ENT and ENN: instruction, target register, whether the value is negated (45 R218 to R247). -/
def enters (a : Addr) : List (Instr × Reg × Bool) :=
  [(.enta a, .a, false), (.enna a, .a, true), (.ent1 a, .i1, false), (.enn1 a, .i1, true), (.ent2 a, .i2, false),
   (.enn2 a, .i2, true), (.ent3 a, .i3, false), (.enn3 a, .i3, true), (.ent4 a, .i4, false), (.enn4 a, .i4, true),
   (.ent5 a, .i5, false), (.enn5 a, .i5, true), (.ent6 a, .i6, false), (.enn6 a, .i6, true), (.entx a, .x, false),
   (.ennx a, .x, true)]

/-- The increases, INC and DEC: instruction, target register, whether the value is negated (45 R216 to R245). -/
def increases (a : Addr) : List (Instr × Reg × Bool) :=
  [(.inca a, .a, false), (.deca a, .a, true), (.inc1 a, .i1, false), (.dec1 a, .i1, true), (.inc2 a, .i2, false),
   (.dec2 a, .i2, true), (.inc3 a, .i3, false), (.dec3 a, .i3, true), (.inc4 a, .i4, false), (.dec4 a, .i4, true),
   (.inc5 a, .i5, false), (.dec5 a, .i5, true), (.inc6 a, .i6, false), (.dec6 a, .i6, true), (.incx a, .x, false),
   (.decx a, .x, true)]

/-- The comparisons: instruction, compared register (46 R252 to R259). -/
def compares (a : Addr) (f : Byte) : List (Instr × Reg) :=
  [(.cmpa a f, .a), (.cmp1 a f, .i1), (.cmp2 a f, .i2), (.cmp3 a f, .i3), (.cmp4 a f, .i4), (.cmp5 a f, .i5),
   (.cmp6 a f, .i6), (.cmpx a f, .x)]

/-- The jumps on the comparison indicator: instruction, the values it is taken on (47 R273, R284 to R289). -/
def indicatorJumps (a : Addr) : List (Instr × List Indicator) :=
  [(.jl a, [.less]), (.je a, [.equal]), (.jg a, [.greater]), (.jge a, [.equal, .greater]),
   (.jne a, [.less, .greater]), (.jle a, [.less, .equal])]

/-- The six jumps on one register, by the states each is taken on (47 R273). -/
def sixJumps (r : Reg) (n z p nn nz np : Instr) : List (Instr × Reg × List Indicator) :=
  [(n, r, [.less]), (z, r, [.equal]), (p, r, [.greater]),
   (nn, r, [.equal, .greater]), (nz, r, [.less, .greater]), (np, r, [.less, .equal])]

/-- The jumps on a register: instruction, tested register, the states it is taken on (47 R273, R290 to R337). -/
def registerJumps (a : Addr) : List (Instr × Reg × List Indicator) :=
  sixJumps .a (.jan a) (.jaz a) (.jap a) (.jann a) (.janz a) (.janp a)
    ++ sixJumps .i1 (.j1n a) (.j1z a) (.j1p a) (.j1nn a) (.j1nz a) (.j1np a)
    ++ sixJumps .i2 (.j2n a) (.j2z a) (.j2p a) (.j2nn a) (.j2nz a) (.j2np a)
    ++ sixJumps .i3 (.j3n a) (.j3z a) (.j3p a) (.j3nn a) (.j3nz a) (.j3np a)
    ++ sixJumps .i4 (.j4n a) (.j4z a) (.j4p a) (.j4nn a) (.j4nz a) (.j4np a)
    ++ sixJumps .i5 (.j5n a) (.j5z a) (.j5p a) (.j5nn a) (.j5nz a) (.j5np a)
    ++ sixJumps .i6 (.j6n a) (.j6z a) (.j6p a) (.j6nn a) (.j6nz a) (.j6np a)
    ++ sixJumps .x (.jxn a) (.jxz a) (.jxp a) (.jxnn a) (.jxnz a) (.jxnp a)

/-- The jumps that test no indicator and no register (47 R280 to R283). -/
def plainJumps (a : Addr) : List Instr := [.jmp a, .jsj a, .jov a, .jnov a]

/-- The shifts (48 R341 to R346). -/
def shifts (a : Addr) : List Instr := [.sla a, .sra a, .slax a, .srax a, .slc a, .src a]

/-- The instructions the spec leaves unimplemented: instruction, and the (C, F) its fault records (30 R84). -/
def unimplementeds (a : Addr) (f : Byte) : List (Instr × Byte × Byte) :=
  [(.nop a f, 0, f), (.num a, 5, 0), (.char a, 5, 1), (.hlt a, 5, 2), (.opcode5Other a f, 5, f),
   (.jbus a f, 34, f), (.ioc a f, 35, f), (.in_ a f, 36, f), (.out a f, 37, f), (.jred a f, 38, f)]

/-- The instructions that read a field of the word at EA (20 R57). -/
def fieldReaders (a : Addr) (f : Byte) : List Instr :=
  (loads a f).map (·.1) ++ (stores a f).map (·.1) ++ arithmetics a f ++ (compares a f).map (·.1)

/-- Every jump (47). -/
def jumps (a : Addr) : List Instr :=
  plainJumps a ++ (indicatorJumps a).map (·.1) ++ (registerJumps a).map (·.1)

/-- Every instruction that uses the effective address: all the implemented ones but the address transfers (41 R135). -/
def addressUsers (a : Addr) (f : Byte) : List Instr :=
  fieldReaders a f ++ jumps a ++ shifts a ++ [.move a f]

/-- Every address transfer (45). -/
def transfers (a : Addr) : List Instr := (enters a).map (·.1) ++ (increases a).map (·.1)

/-- A row with one target register, as instruction and registers written. -/
def oneTarget (x : Instr × Reg × Bool) : Instr × List Reg := (x.1, [x.2.1])

/-- A row that writes no register. -/
def noTarget (x : Instr × Reg) : Instr × List Reg := (x.1, [])

/-- The registers the arithmetic instructions write (10 R27). -/
def arithmeticTargets (a : Addr) (f : Byte) : List (Instr × List Reg) :=
  [(.add a f, [.a]), (.sub a f, [.a]), (.mul a f, [.a, .x]), (.div a f, [.a, .x])]

/-- The registers the shifts write (10 R27). -/
def shiftTargets (a : Addr) : List (Instr × List Reg) :=
  [(.sla a, [.a]), (.sra a, [.a]), (.slax a, [.a, .x]), (.srax a, [.a, .x]), (.slc a, [.a, .x]), (.src a, [.a, .x])]

/-- The instructions that store nothing and do not jump, each with the registers its rule lets it write (10 R27). -/
def registerOnly (a : Addr) (f : Byte) : List (Instr × List Reg) :=
  (loads a f).map oneTarget ++ arithmeticTargets a f ++ (enters a).map oneTarget ++ (increases a).map oneTarget
    ++ (compares a f).map noTarget ++ shiftTargets a

/-- The instructions that may set OT (10 R32). -/
def toggleSetters (a : Addr) (f : Byte) : List Instr :=
  [.add a f, .sub a f, .div a f, .inca a, .deca a, .incx a, .decx a]

end Sys2Proof.Machine
end

