-- ==== Sys2Proof/Machine/HostPort.lean ====
section
/-! DEFINITION. The host port (70 R400 to R409): the commands the host issues, one at a time, each atomic. -/

namespace Sys2Proof.Machine

/-- The host's commands (70). Data words are unsigned integers, so that a value above `2^31 - 1` can be offered and
refused (92 D13). There is no command that reads or writes PC, or writes OT or CI (70 R406). -/
inductive Command where
  /-- `new()` (70 R400). -/
  | new
  | peekMemory (address : Nat)
  | pokeMemory (address word : Nat)
  | peekRegister (r : Reg)
  | pokeRegister (r : Reg) (word : Nat)
  | peekOverflowToggle
  | peekComparisonIndicator
  | step
  | encode (s aa i f c : Nat)
deriving DecidableEq, Repr

/-- What a command returns. -/
inductive Reply where
  | ok
  | word (w : Word)
  | toggle (b : Bool)
  | indicator (c : Indicator)
  | err (c : FaultCause)
  /-- The failure of `encode`, no fault of the core (92 D21). -/
  | encodeRangeError
  /-- A step on an instruction without a meaning; the model has none. -/
  | refused (r : Refusal)
deriving DecidableEq, Repr

/-- `peekMemory` (70 R402). -/
def peekMemory (address : Nat) (s : State) : Except FaultCause Word := s.memRead address

/-- `pokeMemory`: the address is checked before the value (70 R403). -/
def pokeMemory (address word : Nat) (s : State) : Except FaultCause State :=
  if 4000 ≤ address then .error (.invalidAddress (.word address))
  else if 2 ^ 31 - 1 < word then .error (.invalidWordValue word)
  else s.memWrite address (BitVec.ofNat 31 word)

/-- `pokeRegister`: the value is checked before the narrowing (70 R405). -/
def pokeRegister (r : Reg) (word : Nat) (s : State) : Except FaultCause State :=
  if 2 ^ 31 - 1 < word then .error (.invalidWordValue word)
  else s.writeReg r (BitVec.ofNat 31 word)

/-- `new()`: the reset state (70 R400). The parameter ZERO_SUM_SIGN is no state of the machine and stays; the draw
counter stays too, so that the new machine's free words are fresh ones (log 6). -/
def newMachine (s : State) : State := { State.reset with zeroSumSign := s.zeroSumSign, draws := s.draws }

/-- The reply of a command that either returns the new state or fails and changes nothing. -/
def replyWrite (s : State) : Except FaultCause State → Reply × State
  | .ok t => (.ok, t)
  | .error c => (.err c, s)

/-- The reply of `step()`: after a fault the machine continues from the state the fault left (60 R371, 70 R407). -/
def replyStep (s : State) : Outcome → Reply × State
  | .next t => (.ok, t)
  | .fault q => (.err q.cause, q.resume)
  | .refused r => (.refused r, s)

/-- One host command, served atomically (70 R409): its reply and the state after it. -/
def serve (c : Command) (s : State) : Reply × State :=
  match c with
  | .new => (.ok, newMachine s)
  | .peekMemory a =>
    match peekMemory a s with
    | .ok w => (.word w, s)
    | .error c => (.err c, s)
  | .pokeMemory a w => replyWrite s (pokeMemory a w s)
  | .peekRegister r => (.word (s.readReg r), s)
  | .pokeRegister r w => replyWrite s (pokeRegister r w s)
  | .peekOverflowToggle => (.toggle s.ot, s)
  | .peekComparisonIndicator => (.indicator s.ci, s)
  | .step => replyStep s (Sys2Proof.Machine.step s)
  | .encode sg aa i f c =>
    match hostEncode sg aa i f c with
    | .ok w => (.word w, s)
    | .error _ => (.encodeRangeError, s)

/-- The commands of a session, served in the order the host issues them (70 R409). -/
def serveAll : List Command → State → State
  | [], s => s
  | c :: cs, s => serveAll cs (serve c s).2

end Sys2Proof.Machine
end

