-- ==== Sys2Proof/Safety.lean ====
section
/-! DEFINITION. What counts as a sound state and as a run's end, and what an instruction leaves unchanged, in the terms
the statements use. -/

namespace Sys2Proof.Machine

/-- A sound state: memory in canonical form, PC one of its 8191 values (10 R30). -/
def State.sound (s : State) : Bool := s.mem.wf && decide (s.pc.toNat ≤ 8190)

/-- A state in which an instruction executes: PC has advanced past a word fetched below 4000 (41 R131). -/
def State.dispatched (s : State) : Bool := decide (1 ≤ s.pc.toNat) && decide (s.pc.toNat ≤ 4000)

/-- The normal end of a run: an HLT word's fault, UnknownOpcode with info (5, 2) (70 R411). -/
def Fault.normalEnd : Fault → Bool
  | .raised c _ => decide (c = .unknownOpcode 5 2)

/-- Every register but those listed reads as before. -/
def sameRegsBut (ds : List Reg) (s t : State) : Prop := ∀ r, r ∉ ds → t.readReg r = s.readReg r

/-- Every word of memory reads as before. -/
def sameMem (s t : State) : Prop := ∀ b, t.mem.read b = s.mem.read b

/-- Every word of memory but the one at `e` reads as before. -/
def sameMemBut (e : Nat) (s t : State) : Prop := ∀ b, b ≠ e → t.mem.read b = s.mem.read b

/-- OT and CI are as before. -/
def sameFlags (s t : State) : Prop := t.ot = s.ot ∧ t.ci = s.ci

/-- The model's own fields are as before: the parameter and the draw counter (log 2, log 3). -/
def sameModel (s t : State) : Prop := t.zeroSumSign = s.zeroSumSign ∧ t.draws = s.draws

/-- Everything but the registers is as before. -/
def sameBeyondRegs (s t : State) : Prop := t.pc = s.pc ∧ sameFlags s t ∧ sameMem s t ∧ sameModel s t

/-- The word a store stores: its register's, or `+0` for STZ (43 R170). -/
def sourceWord (s : State) : Option Reg → Word
  | some r => s.readReg r
  | none => 0

/-- The memory operand of an instruction is `v`: the address is effective and in memory, and `v` is the field F of the
word there (44 R190). -/
def operandIs (a : Addr) (f : Byte) (s : State) (v : Word) : Prop :=
  ∃ e, effectiveAddress a s = .ok e ∧ e < 4000 ∧ truncateToField (s.mem.read e) f = .ok v

/-- The fetched word of a state whose PC is in memory: Mem[PC] (41 R130). -/
def State.fetchedWord (s : State) : Word := s.mem.read s.pc.toNat

/-- The opcode and the F of a word that the decoder refuses: opcode 6 with F >= 6, or 48..55 with F >= 4 (30 R86,
R87). -/
def illegalMode (c f : Nat) : Prop := (c = 6 ∧ 6 ≤ f) ∨ (48 ≤ c ∧ c ≤ 55 ∧ 4 ≤ f)

/-- The opcode and the F of a jump word with an illegal sub-mode (47 R275). -/
def illegalSubmode (c f : Nat) : Prop := (c = 39 ∧ 10 ≤ f) ∨ (40 ≤ c ∧ c ≤ 47 ∧ 6 ≤ f)

/-- The sum of a signed addition is kept in the register `r` of `t`, and OT notes its overflow (41 R136): a sum of
less than 31 bits exactly, a longer one with its own sign and its low 30 bits; a zero sum with the sign that the
parameter asks for. -/
def keepsSum (r : Reg) (sum : Int) (s t : State) : Prop :=
  (sum.natAbs < 2 ^ 30 → toInt (t.readReg r) = sum ∧ t.ot = s.ot) ∧
  (2 ^ 30 ≤ sum.natAbs →
    mag (t.readReg r) + 2 ^ 30 = sum.natAbs ∧ sign (t.readReg r) = decide (sum < 0) ∧ t.ot = true) ∧
  (sum = 0 → sign (t.readReg r) = match s.zeroSumSign with
    | .plus => false
    | .keepOld => sign (s.readReg r))

/-- The k-th byte of A:X, byte 0 the least significant (48, notation). -/
def State.pairByte (s : State) (k : Nat) : Nat := s.pairAX / 64 ^ k % 64

end Sys2Proof.Machine
end

