-- ==== Sys2Proof/WellFormed.lean ====
section
/-! DEFINITION. Which terms of `Instr` stand for a word, and which of them are legal as instructions. -/

namespace Sys2Proof

/-- A term stands for a word of the table. The types already bound every field by its width; the one condition left is
that the row of the other opcode-5 words has F >= 3, since F = 0, 1, 2 are NUM, CHAR and HLT (30 R84). -/
def Instr.wellFormed : Instr → Bool
  | .opcode5Other _ f => decide (3 ≤ f.toNat)
  | _ => true

/-- The index spec of an address is legal: 0..6 (30 R73). An address with another one decodes and then faults. -/
def Addr.indexLegal (a : Addr) : Bool := decide (a.i.toNat ≤ 6)

end Sys2Proof
end

