-- ==== Sys2Proof/Certificates/Slice0/Obligations.lean ====
section
/-! DEFINITION. The statements for the provers. A title, the rule and the words a statement formalises stand in
OBLIGATIONS.json; a docstring here says what the Lean text says. Where a clause rests on a decision the spec marks as
its own, or on an entry of the assumption log, the docstring names it. -/

open Sys2Proof Sys2Proof.Machine

/-! ### Encoding -/

/-- Decoding the word of a well-formed instruction gives the instruction back, with every operand. (The opcode numbers
are the spec's decision D1, log 12.) -/
def Obligations.DecodeEncodeRoundTrip : Prop :=
  ∀ i : Instr, i.wellFormed = true → decode (encode i) = .ok i

/-- A word that decodes is the word of the instruction it decodes to: no bit of it is dropped. -/
def Obligations.EncodeDecodeRoundTrip : Prop :=
  ∀ (w : Word) (i : Instr), decode w = .ok i → i.wellFormed = true ∧ encode i = w

/-- The words that are no instruction of the table are those of the illegal modes of opcodes 6 and 48..55 (decisions
D6, D7; log 13) and of the illegal sub-modes of opcodes 39..47 (log 5), and the decoder says which. (The opcode
numbers are the spec's decision D1, log 12.) -/
def Obligations.DecodeRejectsExactly : Prop :=
  ∀ (w : Word) (q : Reject),
    decode w = .error q ↔
      (illegalMode (opcodeOf w).toNat (fieldOf w).toNat ∧ q = .invalidFieldSpec (fieldOf w)) ∨
      (illegalSubmode (opcodeOf w).toNat (fieldOf w).toNat ∧ q = .illegalJump (opcodeOf w) (fieldOf w) (addrOf w))

/-- The five fields of a word, bit by bit and as MIX bytes, and the registers the index specs name. -/
def Obligations.InstructionFieldLayout : Prop :=
  (∀ w : Word,
    (∀ k < 6, (opcodeOf w).getLsbD k = w.getLsbD k) ∧
    (∀ k < 6, (fieldOf w).getLsbD k = w.getLsbD (6 + k)) ∧
    (∀ k < 6, (addrOf w).i.getLsbD k = w.getLsbD (12 + k)) ∧
    (∀ k < 12, (addrOf w).aa.getLsbD k = w.getLsbD (18 + k)) ∧
    (addrOf w).sign = w.getLsbD 30 ∧
    (opcodeOf w).toNat = byte w 5 ∧ (fieldOf w).toNat = byte w 4 ∧ (addrOf w).i.toNat = byte w 3 ∧
    (addrOf w).aa.toNat = 64 * byte w 1 + byte w 2) ∧
  [indexRegister 0, indexRegister 1, indexRegister 2, indexRegister 3, indexRegister 4, indexRegister 5,
    indexRegister 6] = [none, some .i1, some .i2, some .i3, some .i4, some .i5, some .i6]

/-- The host's encoder: the word of five fields that fit their widths, a refusal otherwise; bit widths are all it
checks; and it rebuilds every word from its fields. -/
def Obligations.HostEncoderChecksWidths : Prop :=
  (∀ s aa i f c : Nat, s < 2 → aa < 4096 → i < 64 → f < 64 → c < 64 →
    ∃ w, hostEncode s aa i f c = .ok w ∧
      w.toNat = s * 2 ^ 30 + aa * 2 ^ 18 + i * 2 ^ 12 + f * 2 ^ 6 + c) ∧
  (∀ s aa i f c : Nat, 2 ≤ s ∨ 4096 ≤ aa ∨ 64 ≤ i ∨ 64 ≤ f ∨ 64 ≤ c → ∃ e, hostEncode s aa i f c = .error e) ∧
  (∃ w, hostEncode 0 0 7 5 8 = .ok w ∧
    ∀ s : State, s.pc.toNat < 4000 → s.fetchedWord = w →
      step s = .fault (.raised (.invalidIndexSpec 7) (s.setPc (s.pc + 1)))) ∧
  (∀ w : Word,
    hostEncode (w.getLsbD 30).toNat (w.extractLsb' 18 12).toNat (w.extractLsb' 12 6).toNat
      (w.extractLsb' 6 6).toNat (w.extractLsb' 0 6).toNat = .ok w)

/-- Words of the spec's examples decode to the instructions they stand for, one of each family. Every clause rests on
the opcode and F numbers, which are the spec's decision D1 from general knowledge (log 12). -/
def Obligations.SampleWordsDecode : Prop :=
  decode 0x1F400348#31 = .ok (.lda ⟨false, 2000, 0⟩ 13) ∧
  decode 0x1F182149#31 = .ok (.ld1 ⟨false, 1990, 2⟩ 5) ∧
  decode 0x1F4004D8#31 = .ok (.sta ⟨false, 2000, 0⟩ 19) ∧
  decode 0x0FA00141#31 = .ok (.add ⟨false, 1000, 0⟩ 5) ∧
  decode 0x401420B0#31 = .ok (.enta ⟨true, 5, 2⟩) ∧
  decode 0x1F400979#31 = .ok (.cmp1 ⟨false, 2000, 0⟩ 37) ∧
  decode 0x0FA000A7#31 = .ok (.jov ⟨false, 1000, 0⟩) ∧
  decode 0x00080106#31 = .ok (.slc ⟨false, 2, 0⟩) ∧
  decode 0x0FA000C7#31 = .ok (.move ⟨false, 1000, 0⟩ 3) ∧
  decode 0x00000085#31 = .ok (.hlt ⟨false, 0, 0⟩)

/-! ### The codec -/

/-- The truncation selects the bytes `max(L,1)..R` of the 21 legal field specs, right-justified, with the value's sign
if `L = 0` and `+` otherwise; every other field spec is refused. -/
def Obligations.TruncateSelectsBytes : Prop :=
  ∀ (v : Word) (f : Byte),
    (f ∈ ([0, 1, 2, 3, 4, 5, 9, 10, 11, 12, 13, 18, 19, 20, 21, 27, 28, 29, 36, 37, 45] : List Byte) →
      ∃ w, truncateToField v f = .ok w ∧
        sign w = (if f.toNat / 8 = 0 then sign v else false) ∧
        ∀ k, 1 ≤ k → k ≤ 5 →
          byte w k = if 5 < k + (f.toNat % 8 + 1 - max (f.toNat / 8) 1) then byte v (k + f.toNat % 8 - 5) else 0) ∧
    (f ∉ ([0, 1, 2, 3, 4, 5, 9, 10, 11, 12, 13, 18, 19, 20, 21, 27, 28, 29, 36, 37, 45] : List Byte) →
      truncateToField v f = .error (.invalidFieldSpec f))

/-- The embedding replaces the bytes `max(L,1)..R` of the destination by the rightmost bytes of the source, and its
sign by the source's if `L = 0`; every other byte is untouched; an illegal field spec is refused; and embedding a
word's own truncation gives the word back. -/
def Obligations.EmbedReplacesBytes : Prop :=
  ∀ (src dst : Word) (f : Byte),
    (f.toNat / 8 ≤ f.toNat % 8 → f.toNat % 8 ≤ 5 →
      ∃ w, embedFromField src dst f = .ok w ∧
        sign w = (if f.toNat / 8 = 0 then sign src else sign dst) ∧
        ∀ k, 1 ≤ k → k ≤ 5 →
          byte w k = if max (f.toNat / 8) 1 ≤ k ∧ k ≤ f.toNat % 8 then byte src (k + 5 - f.toNat % 8)
            else byte dst k) ∧
    (f.toNat % 8 < f.toNat / 8 ∨ 5 < f.toNat % 8 → embedFromField src dst f = .error (.invalidFieldSpec f)) ∧
    (∀ t, truncateToField dst f = .ok t → embedFromField t dst f = .ok dst)

/-- `negate`, `widen`, `narrow` and `toInt`: what each gives and when `narrow` is an error. -/
def Obligations.SignAndWidthConversions : Prop :=
  (∀ v : Word, sign (negate v) = !sign v ∧ mag (negate v) = mag v ∧ negate v = v ^^^ BitVec.ofNat 31 (2 ^ 30)) ∧
  (negate (mkword false 0) = mkword true 0 ∧ negate (mkword true 0) = mkword false 0) ∧
  (∀ n : Narrow, widen n = mkword n.sign n.mag.toNat ∧
    byte (widen n) 1 = 0 ∧ byte (widen n) 2 = 0 ∧ byte (widen n) 3 = 0 ∧
    64 * byte (widen n) 4 + byte (widen n) 5 = n.mag.toNat) ∧
  (∀ w : Word,
    (byte w 1 = 0 ∧ byte w 2 = 0 ∧ byte w 3 = 0 →
      ∃ n, narrow w = .ok n ∧ n.sign = sign w ∧ n.mag.toNat = w.toNat % 2 ^ 12) ∧
    (¬ (byte w 1 = 0 ∧ byte w 2 = 0 ∧ byte w 3 = 0) → narrow w = .error (.registerNarrowingError w))) ∧
  (∀ w : Word, toInt w = (if sign w then -(mag w : Int) else mag w) ∧
    -(2 ^ 30 - 1) ≤ toInt w ∧ toInt w ≤ 2 ^ 30 - 1)

/-- The five laws of the codec (the spec states the first three and derives the last two). -/
def Obligations.CodecLaws : Prop :=
  (∀ x : Narrow, narrow (widen x) = .ok x) ∧
  (∀ (w t : Word) (f : Byte), truncateToField w f = .ok t → embedFromField t w f = .ok w) ∧
  (∀ w : Word, toInt (negate w) = -toInt w) ∧
  (∀ v w : Word, truncateToField w 5 = .ok w ∧ embedFromField v w 5 = .ok v) ∧
  (∀ (w t : Word) (f : Byte), 8 ≤ f.toNat → truncateToField w f = .ok t → sign t = false)

/-! ### Memory -/

/-- The two memory primitives: an address of 4000 or more is an error; a read gives the word; a write changes that word
and nothing else. That a write keeps memory in canonical form, the clause `t.mem.wf = true`, is about the model's own
list of words (log 4, DEDUCED) and no rule of the spec. (Addresses are natural numbers here: 20 R51 says the core passes
no negative one.) -/
def Obligations.MemoryReadWrite : Prop :=
  ∀ (s : State) (a : Nat) (w : Word), s.mem.wf = true →
    (4000 ≤ a → s.memRead a = .error (.invalidAddress (.word a)) ∧
      s.memWrite a w = .error (.invalidAddress (.word a))) ∧
    (a < 4000 → s.memRead a = .ok (s.mem.read a) ∧
      ∃ t, s.memWrite a w = .ok t ∧ t.memRead a = .ok w ∧ sameMemBut a s t ∧ t.mem.wf = true ∧
        sameRegsBut [] s t ∧ t.pc = s.pc ∧ sameFlags s t ∧ sameModel s t)

/-- Two canonical memories that read alike at every address are the same list (log 4). -/
def Obligations.CanonicalMemoryIsDetermined : Prop :=
  ∀ m n : Memory, m.wf = true → n.wf = true → (∀ a, a < 4000 → m.read a = n.read a) → m = n

/-! ### The step -/

/-- The fetch reads Mem[PC]; with PC at 4000 or more the step faults and changes nothing, PC included. -/
def Obligations.FetchFaultChangesNothing : Prop :=
  ∀ s : State,
    (s.pc.toNat < 4000 → s.fetch = .ok s.fetchedWord) ∧
    (4000 ≤ s.pc.toNat → step s = .fault (.raised (.invalidAddress (.word s.pc.toNat)) s))

/-- A step whose word decodes to an instruction is that instruction's `exec`, in the state with PC advanced. -/
def Obligations.StepRunsDecoded : Prop :=
  ∀ (s : State) (i : Instr), s.pc.toNat < 4000 → decode s.fetchedWord = .ok i →
    step s = exec i (s.setPc (s.pc + 1)) ∧ (s.setPc (s.pc + 1)).pc.toNat = s.pc.toNat + 1

/-- PC after a step that fetched at p: p + 1 after every fault and after every instruction that does not branch, p + 1
or the target after a jump; p + 1 is what a jump saves in J, and is at most 4000. -/
def Obligations.ProgramCounterAfterStep : Prop :=
  ∀ s : State, s.pc.toNat < 4000 →
    s.pc.toNat + 1 ≤ 4000 ∧
    (∀ q, step s = .fault q → q.resume.pc.toNat = s.pc.toNat + 1) ∧
    (∀ i t, decode s.fetchedWord = .ok i → step s = .next t →
      ((∀ a, i ∉ jumps a) → t.pc.toNat = s.pc.toNat + 1) ∧
      (∀ a, i ∈ jumps a →
        (t.pc.toNat = s.pc.toNat + 1 ∨ effectiveAddress a (s.setPc (s.pc + 1)) = .ok t.pc.toNat) ∧
        (i ≠ .jsj a → t.readReg .j = mkword false (s.pc.toNat + 1))))

/-- The decode faults: an unimplemented opcode gives UnknownOpcode with C and F (decision D5), an illegal mode gives
InvalidFieldSpec (decisions D6, D7); PC has advanced and nothing else changed. -/
def Obligations.DecodeFaultsAdvanceOnly : Prop :=
  ∀ s : State, s.pc.toNat < 4000 →
    ((opcodeOf s.fetchedWord).toNat ∈ [0, 5, 34, 35, 36, 37, 38] →
      step s = .fault (.raised (.unknownOpcode (opcodeOf s.fetchedWord) (fieldOf s.fetchedWord))
        (s.setPc (s.pc + 1)))) ∧
    (illegalMode (opcodeOf s.fetchedWord).toNat (fieldOf s.fetchedWord).toNat →
      step s = .fault (.raised (.invalidFieldSpec (fieldOf s.fetchedWord)) (s.setPc (s.pc + 1))))

/-- A jump word with an illegal sub-mode: an address fault comes first and leaves J; otherwise the step faults with J
already written (decision D10; log 5). -/
def Obligations.IllegalSubmodeFaultsAfterJ : Prop :=
  ∀ s : State, s.pc.toNat < 4000 → illegalSubmode (opcodeOf s.fetchedWord).toNat (fieldOf s.fetchedWord).toNat →
    (∀ c, effectiveAddress (addrOf s.fetchedWord) (s.setPc (s.pc + 1)) = .error c →
      step s = .fault (.raised c (s.setPc (s.pc + 1)))) ∧
    (∀ e, effectiveAddress (addrOf s.fetchedWord) (s.setPc (s.pc + 1)) = .ok e →
      step s = .fault (.raised (.invalidFieldSpec (fieldOf s.fetchedWord))
        ((s.setPc (s.pc + 1)).setJ ⟨false, BitVec.ofNat 12 (s.pc.toNat + 1)⟩)))

/-- What a faulting step leaves: the state it started from (a fetch fault), or that state with PC advanced, or, for an
illegal jump sub-mode, with J written too. (The table of 60 R372 is derived there.) -/
def Obligations.FaultLeavesState : Prop :=
  ∀ (s t : State) (c : FaultCause), step s = .fault (.raised c t) →
    (4000 ≤ s.pc.toNat ∧ c = .invalidAddress (.word s.pc.toNat) ∧ t = s) ∨
    (s.pc.toNat < 4000 ∧ t = s.setPc (s.pc + 1)) ∨
    (s.pc.toNat < 4000 ∧ illegalSubmode (opcodeOf s.fetchedWord).toNat (fieldOf s.fetchedWord).toNat ∧
      c = .invalidFieldSpec (fieldOf s.fetchedWord) ∧
      t = (s.setPc (s.pc + 1)).setJ ⟨false, BitVec.ofNat 12 (s.pc.toNat + 1)⟩)

/-- Every word in every state executes or faults: the model refuses nothing. -/
def Obligations.NothingIsRefused : Prop :=
  (∀ (s : State) (x : Refusal), step s ≠ .refused x) ∧ (∀ (i : Instr) (s : State) (x : Refusal), exec i s ≠ .refused x)

/-- Every step, completed or faulting, keeps memory canonical and PC in 0..8190 (decision D20; log 4, log 9). -/
def Obligations.StepKeepsSound : Prop :=
  ∀ s : State, s.sound = true →
    (∀ t, step s = .next t → t.sound = true) ∧ (∀ q, step s = .fault q → q.resume.sound = true)

/-- The state after reset is sound. -/
def Obligations.ResetIsSound : Prop := State.reset.sound = true

/-- Every piece of state after reset (the two fields of the model's own, log 2 and log 3, are not spoken of). -/
def Obligations.ResetState : Prop :=
  State.reset.regA = mkword false 0 ∧ State.reset.regX = mkword false 0 ∧
  (∀ n ∈ [State.reset.regI1, State.reset.regI2, State.reset.regI3, State.reset.regI4, State.reset.regI5,
    State.reset.regI6, State.reset.regJ], n.sign = false ∧ n.mag = 0) ∧
  (∀ a, a < 4000 → State.reset.memRead a = .ok (mkword false 0)) ∧
  State.reset.pc = 0 ∧ State.reset.ot = false ∧ State.reset.ci = .less

/-- The order of the checks up to the field spec: the index spec, then the sign of the address (not for an address
transfer), then the address bound, then the field spec (decision D10). -/
def Obligations.CheckOrder : Prop :=
  ∀ (a : Addr) (f : Byte) (s : State) (i : Instr),
    (i ∈ addressUsers a f ∨ i ∈ transfers a → 7 ≤ a.i.toNat →
      exec i s = .fault (.raised (.invalidIndexSpec a.i) s)) ∧
    (i ∈ addressUsers a f → ∀ m, indexedAddress a s = .ok m → m < 0 →
      exec i s = .fault (.raised (.negativeEffectiveAddress m) s)) ∧
    (i ∈ fieldReaders a f → ∀ e, effectiveAddress a s = .ok e →
      (4000 ≤ e → exec i s = .fault (.raised (.invalidAddress (.word e)) s)) ∧
      (e < 4000 → legalField f = false → exec i s = .fault (.raised (.invalidFieldSpec f) s)))

/-- The index value: 0 for no index, the register's signed value for I1..I6, a fault for 7..63 (decision D10). -/
def Obligations.IndexValue : Prop :=
  ∀ (s : State) (i : Byte),
    (i = 0 → indexValue i s = .ok 0) ∧
    (∀ r, (i, r) ∈ ([(1, .i1), (2, .i2), (3, .i3), (4, .i4), (5, .i5), (6, .i6)] : List (Byte × Reg)) →
      indexValue i s = .ok (toInt (s.readReg r)) ∧ -4095 ≤ toInt (s.readReg r) ∧ toInt (s.readReg r) ≤ 4095) ∧
    (7 ≤ i.toNat → indexValue i s = .error (.invalidIndexSpec i))

/-- The indexed address is the signed address plus the index value; the effective address is the indexed one, which
must not be negative; it may reach 8190. A zero M has the sign of the instruction's own S bit. -/
def Obligations.EffectiveAddress : Prop :=
  ∀ (a : Addr) (s : State) (v : Int), indexValue a.i s = .ok v →
    aval a = (if a.sign then -(a.aa.toNat : Int) else a.aa.toNat) ∧
    indexedAddress a s = .ok (aval a + v) ∧ -8190 ≤ aval a + v ∧ aval a + v ≤ 8190 ∧
    (aval a + v < 0 → effectiveAddress a s = .error (.negativeEffectiveAddress (aval a + v))) ∧
    (0 ≤ aval a + v → ∃ e : Nat, effectiveAddress a s = .ok e ∧ (e : Int) = aval a + v ∧ e ≤ 8190) ∧
    (a = ⟨true, 0, 0⟩ → effectiveAddress a s = .ok 0) ∧
    (aval a + v = 0 → addressWord a false 0 = mkword a.sign 0)

/-! ### Load -/

/-- A load: its checks in their order, then the write of the truncated and, if asked, negated word into its register;
nothing else changes. -/
def Obligations.LoadRule : Prop :=
  ∀ (a : Addr) (f : Byte) (i : Instr) (r : Reg) (negative : Bool) (s : State), (i, r, negative) ∈ loads a f →
    (∀ c, effectiveAddress a s = .error c → exec i s = .fault (.raised c s)) ∧
    (∀ e, effectiveAddress a s = .ok e →
      (4000 ≤ e → exec i s = .fault (.raised (.invalidAddress (.word e)) s)) ∧
      (e < 4000 →
        (∀ c, truncateToField (s.mem.read e) f = .error c → exec i s = .fault (.raised c s)) ∧
        (∀ v, truncateToField (s.mem.read e) f = .ok v →
          (r.wide = false → 2 ^ 12 ≤ mag v →
            exec i s = .fault (.raised (.registerNarrowingError (if negative then negate v else v)) s)) ∧
          (r.wide = true ∨ mag v < 2 ^ 12 →
            ∃ t, exec i s = .next t ∧ t.readReg r = (if negative then negate v else v) ∧
              sameRegsBut [r] s t ∧ sameBeyondRegs s t))))

/-- A load into an index register whose address and field spec are legal completes iff the selected bytes other than
the rightmost two are zero (hence always for at most two bytes), and its sign always loads. -/
def Obligations.NarrowLoadNeedsZeroHighBytes : Prop :=
  ∀ (a : Addr) (f : Byte) (i : Instr) (r : Reg) (negative : Bool) (s : State) (e : Nat),
    (i, r, negative) ∈ loads a f → r.wide = false → effectiveAddress a s = .ok e → e < 4000 → legalField f = true →
    ((∃ t, exec i s = .next t) ↔
      ∀ k, max (f.toNat / 8) 1 ≤ k → k + 2 ≤ f.toNat % 8 → byte (s.mem.read e) k = 0) ∧
    (f.toNat % 8 + 1 ≤ max (f.toNat / 8) 1 + 2 → ∃ t, exec i s = .next t) ∧
    (∀ t, exec i s = .next t →
      sign (t.readReg r) = Bool.xor (if f.toNat / 8 = 0 then sign (s.mem.read e) else false) negative)

/-! ### Store -/

/-- A store: its checks in their order, then the one write, of the old word with the field replaced from the source
register's word or from `+0`; nothing else changes. -/
def Obligations.StoreRule : Prop :=
  ∀ (a : Addr) (f : Byte) (i : Instr) (source : Option Reg) (s : State), s.mem.wf = true → (i, source) ∈ stores a f →
    (∀ c, effectiveAddress a s = .error c → exec i s = .fault (.raised c s)) ∧
    (∀ e, effectiveAddress a s = .ok e →
      (4000 ≤ e → exec i s = .fault (.raised (.invalidAddress (.word e)) s)) ∧
      (e < 4000 →
        (∀ c, embedFromField (sourceWord s source) (s.mem.read e) f = .error c →
          exec i s = .fault (.raised c s)) ∧
        (∀ w, embedFromField (sourceWord s source) (s.mem.read e) f = .ok w →
          ∃ t, exec i s = .next t ∧ t.mem.read e = w ∧ sameMemBut e s t ∧ sameRegsBut [] s t ∧ t.pc = s.pc ∧
            sameFlags s t ∧ sameModel s t)))

/-- The frame of a store: only the word at the effective address may change. -/
def Obligations.StoreFrame : Prop :=
  ∀ (a : Addr) (f : Byte) (i : Instr) (source : Option Reg) (s t : State),
    (i, source) ∈ stores a f → exec i s = .next t →
    (∀ e, effectiveAddress a s = .ok e → sameMemBut e s t) ∧ sameRegsBut [] s t ∧ t.pc = s.pc ∧ sameFlags s t ∧
      sameModel s t

/-! ### Arithmetic -/

/-- ADD and SUB complete for every operand: A keeps the sum (or its sign and low 30 bits, with OT set), a zero sum has
the sign the parameter asks for, and only A and OT change. (The truncation of SUB's operand is decision D18, the zero
sum D2; the statement holds for both values of the parameter, log 2.) -/
def Obligations.AddAndSubtract : Prop :=
  ∀ (a : Addr) (f : Byte) (s : State) (v : Word), operandIs a f s v →
    (∃ t, exec (.add a f) s = .next t ∧ keepsSum .a (toInt s.regA + toInt v) s t ∧ sameRegsBut [.a] s t ∧
      t.pc = s.pc ∧ t.ci = s.ci ∧ sameMem s t ∧ sameModel s t) ∧
    (∃ t, exec (.sub a f) s = .next t ∧ keepsSum .a (toInt s.regA - toInt v) s t ∧ sameRegsBut [.a] s t ∧
      t.pc = s.pc ∧ t.ci = s.ci ∧ sameMem s t ∧ sameModel s t)

/-- MUL completes for every operand: A and X are the halves of the exact product, both with its sign, even when it is
zero; nothing else changes, OT included (the operand's truncation is decision D18). -/
def Obligations.Multiply : Prop :=
  ∀ (a : Addr) (f : Byte) (s : State) (v : Word), operandIs a f s v →
    ∃ t, exec (.mul a f) s = .next t ∧
      mag t.regA * 2 ^ 30 + mag t.regX = mag s.regA * mag v ∧
      sign t.regA = Bool.xor (sign s.regA) (sign v) ∧ sign t.regX = Bool.xor (sign s.regA) (sign v) ∧
      sameRegsBut [.a, .x] s t ∧ sameBeyondRegs s t

/-- DIV whose quotient fits: A is the quotient and X the remainder of the 60-bit dividend, truncating in magnitude,
the quotient with the product of the signs and the remainder with the sign of the OLD A; nothing else changes. (That the
divisor is the field-truncated operand is decision D18, log 13.) -/
def Obligations.DivideFits : Prop :=
  ∀ (a : Addr) (f : Byte) (s : State) (v : Word), operandIs a f s v → mag s.regA < mag v →
    ∃ t, exec (.div a f) s = .next t ∧
      mag t.regA * mag v + mag t.regX = mag s.regA * 2 ^ 30 + mag s.regX ∧ mag t.regX < mag v ∧
      sign t.regA = Bool.xor (sign s.regA) (sign v) ∧ sign t.regX = sign s.regA ∧
      sameRegsBut [.a, .x] s t ∧ sameBeyondRegs s t

/-- DIV whose quotient does not fit completes: OT is set, A and X are left open (decision D4; log 3), and nothing else
of the machine changes. (That the divisor is the field-truncated operand is decision D18, log 13.) -/
def Obligations.DivideOverflows : Prop :=
  ∀ (a : Addr) (f : Byte) (s : State) (v : Word), operandIs a f s v → mag v ≠ 0 → mag v ≤ mag s.regA →
    ∃ t, exec (.div a f) s = .next t ∧ t.ot = true ∧ sameRegsBut [.a, .x] s t ∧ t.pc = s.pc ∧ t.ci = s.ci ∧
      sameMem s t ∧ t.zeroSumSign = s.zeroSumSign

/-- DIV by an operand of magnitude 0 faults and changes nothing (decision D3, log 13); the field `(0:0)` always
does, because DIV divides by the field-truncated operand (decision D18, log 13). -/
def Obligations.DivideByZeroFaults : Prop :=
  ∀ (a : Addr) (s : State),
    (∀ (f : Byte) (v : Word), operandIs a f s v → mag v = 0 →
      exec (.div a f) s = .fault (.raised (.divisionByZero v) s)) ∧
    (∀ e, effectiveAddress a s = .ok e → e < 4000 →
      exec (.div a 0) s = .fault (.raised (.divisionByZero (mkword (sign (s.mem.read e)) 0)) s))

/-! ### Address transfer -/

/-- ENT and ENN: the indexed address, negative or not, into the register, whole; an index register takes at most 12
bits and the fault otherwise changes nothing (derived in the spec, 45 R214). No memory is read, so any M is fine. -/
def Obligations.EnterRule : Prop :=
  ∀ (a : Addr) (i : Instr) (r : Reg) (negateValue : Bool) (s : State) (m : Int),
    (i, r, negateValue) ∈ enters a → indexedAddress a s = .ok m →
    (r.wide = true ∨ m.natAbs < 2 ^ 12 →
      ∃ t, exec i s = .next t ∧ toInt (t.readReg r) = (if negateValue then -m else m) ∧
        sameRegsBut [r] s t ∧ sameBeyondRegs s t) ∧
    (r.wide = false → 2 ^ 12 ≤ m.natAbs →
      ∃ w, toInt w = (if negateValue then -m else m) ∧
        exec i s = .fault (.raised (.registerNarrowingError w) s))

/-- The value entered is M as a word, its sign for M = 0 taken from the instruction's own S bit, and ENN negates after
that; for INC and DEC the sign of a zero value has no effect. -/
def Obligations.EnterZeroTakesInstructionSign : Prop :=
  (∀ (a : Addr) (i : Instr) (r : Reg) (negateValue : Bool) (s : State) (m : Int),
    (i, r, negateValue) ∈ enters a → indexedAddress a s = .ok m → r.wide = true ∨ m.natAbs < 2 ^ 12 →
    ∃ t, exec i s = .next t ∧
      t.readReg r = mkword (Bool.xor (if m = 0 then a.sign else decide (m < 0)) negateValue) m.natAbs) ∧
  (∀ (a b : Addr) (i j : Instr) (r : Reg) (negateValue : Bool) (s : State),
    (i, r, negateValue) ∈ increases a → (j, r, negateValue) ∈ increases b →
    indexedAddress a s = .ok 0 → indexedAddress b s = .ok 0 → exec i s = exec j s)

/-- INC and DEC of A and X complete for every M: the register keeps the sum as for ADD, with OT set on overflow, a
zero sum with the sign the parameter asks for (decision D2; log 2); only the register and OT change. -/
def Obligations.IncreaseWideRegister : Prop :=
  ∀ (a : Addr) (i : Instr) (r : Reg) (negateValue : Bool) (s : State) (m : Int),
    (i, r, negateValue) ∈ increases a → r.wide = true → indexedAddress a s = .ok m →
    ∃ t, exec i s = .next t ∧ keepsSum r (toInt (s.readReg r) + (if negateValue then -m else m)) s t ∧
      sameRegsBut [r] s t ∧ t.pc = s.pc ∧ t.ci = s.ci ∧ sameMem s t ∧ sameModel s t

/-- INC and DEC of an index register whose exact sum has at most 12 bits: the register takes the sum; a zero sum has
the sign the parameter asks for (decision D2; log 2); nothing else changes, OT included. -/
def Obligations.IncreaseIndexRegister : Prop :=
  ∀ (a : Addr) (i : Instr) (r : Reg) (negateValue : Bool) (s : State) (m : Int),
    (i, r, negateValue) ∈ increases a → r.wide = false → indexedAddress a s = .ok m →
    (toInt (s.readReg r) + (if negateValue then -m else m)).natAbs < 2 ^ 12 →
    ∃ t, exec i s = .next t ∧ keepsSum r (toInt (s.readReg r) + (if negateValue then -m else m)) s t ∧
      sameRegsBut [r] s t ∧ sameBeyondRegs s t

/-- INC and DEC of an index register whose exact sum has more than 12 bits fault with UndefinedOverflow; the register
is not written and OT is not changed, nor anything else. -/
def Obligations.IncreaseIndexRegisterOverflows : Prop :=
  ∀ (a : Addr) (i : Instr) (r : Reg) (negateValue : Bool) (s : State) (m : Int),
    (i, r, negateValue) ∈ increases a → r.wide = false → indexedAddress a s = .ok m →
    2 ^ 12 ≤ (toInt (s.readReg r) + (if negateValue then -m else m)).natAbs →
    exec i s = .fault (.raised (.undefinedOverflow (toInt (s.readReg r) + (if negateValue then -m else m))) s)

/-! ### Comparison -/

/-- A comparison: its checks in their order, then CI from the two truncated values as signed integers; it writes CI
only. -/
def Obligations.CompareRule : Prop :=
  ∀ (a : Addr) (f : Byte) (i : Instr) (r : Reg) (s : State), (i, r) ∈ compares a f →
    (∀ c, effectiveAddress a s = .error c → exec i s = .fault (.raised c s)) ∧
    (∀ e, effectiveAddress a s = .ok e →
      (4000 ≤ e → exec i s = .fault (.raised (.invalidAddress (.word e)) s)) ∧
      (e < 4000 →
        (∀ c, truncateToField (s.mem.read e) f = .error c → exec i s = .fault (.raised c s)) ∧
        (∀ vm, truncateToField (s.mem.read e) f = .ok vm →
          ∃ vr t, truncateToField (s.readReg r) f = .ok vr ∧ exec i s = .next t ∧
            (t.ci = .less ↔ toInt vr < toInt vm) ∧ (t.ci = .equal ↔ toInt vr = toInt vm) ∧
            (t.ci = .greater ↔ toInt vm < toInt vr) ∧
            sameRegsBut [] s t ∧ t.pc = s.pc ∧ t.ot = s.ot ∧ sameMem s t ∧ sameModel s t)))

/-- The indicator compares the signed values of the two truncated words: it is Equal iff they are the same integer,
hence for any two of `+0` and `-0`, and always for the field `(0:0)`. (The last clause is a corner case of 46 R251,
which the spec derives from R250.) -/
def Obligations.ZerosCompareEqual : Prop :=
  ∀ (a : Addr) (f : Byte) (i : Instr) (r : Reg) (s : State) (vm vr : Word), (i, r) ∈ compares a f →
    operandIs a f s vm → truncateToField (s.readReg r) f = .ok vr →
    ∃ t, exec i s = .next t ∧ (t.ci = .equal ↔ toInt vr = toInt vm) ∧
      (vr ∈ [mkword false 0, mkword true 0] → vm ∈ [mkword false 0, mkword true 0] → t.ci = .equal) ∧
      (f = 0 → t.ci = .equal)

/-! ### Jump -/

/-- Every jump computes its effective address first, checks only its sign, and then completes, its PC unchanged or at
the target; a target of 4000 or more faults at the next fetch only; memory is neither written nor read (with any other
memory the jump does the same). -/
def Obligations.JumpTarget : Prop :=
  ∀ (a : Addr) (i : Instr) (s : State), s.dispatched = true → i ∈ jumps a →
    (∀ c, effectiveAddress a s = .error c → exec i s = .fault (.raised c s)) ∧
    (∀ e, effectiveAddress a s = .ok e →
      ∃ t, exec i s = .next t ∧ t.mem = s.mem ∧ (t.pc.toNat = e ∨ t.pc = s.pc) ∧
        (∀ m, exec i (s.setMem m) = .next (t.setMem m)) ∧
        (4000 ≤ e → t.pc.toNat = e → step t = .fault (.raised (.invalidAddress (.word e)) t)))

/-- Every jump but JSJ writes J with the address of the instruction after it, sign `+`, taken or not; JSJ leaves J. -/
def Obligations.JumpSavesReturnAddress : Prop :=
  ∀ (a : Addr) (i : Instr) (s t : State), s.dispatched = true → i ∈ jumps a → exec i s = .next t →
    (i ≠ .jsj a → t.readReg .j = mkword false s.pc.toNat) ∧ (i = .jsj a → t.readReg .j = s.readReg .j)

/-- JMP and JSJ always branch; JMP writes J, JSJ no register; nothing else but PC changes. -/
def Obligations.UnconditionalJumps : Prop :=
  ∀ (a : Addr) (s : State) (e : Nat), s.dispatched = true → effectiveAddress a s = .ok e →
    (∃ t, exec (.jmp a) s = .next t ∧ t.pc.toNat = e ∧ t.readReg .j = mkword false s.pc.toNat ∧
      sameRegsBut [.j] s t ∧ sameFlags s t ∧ sameMem s t ∧ sameModel s t) ∧
    (∃ t, exec (.jsj a) s = .next t ∧ t.pc.toNat = e ∧ sameRegsBut [] s t ∧ sameFlags s t ∧ sameMem s t ∧
      sameModel s t)

/-- JOV branches iff OT was set, JNOV iff it was not; both leave OT clear, taken or not; no other instruction clears
it. -/
def Obligations.OverflowJumps : Prop :=
  (∀ (a : Addr) (s : State) (e : Nat), s.dispatched = true → effectiveAddress a s = .ok e →
    (∃ t, exec (.jov a) s = .next t ∧ t.ot = false ∧ t.pc.toNat = (if s.ot then e else s.pc.toNat)) ∧
    (∃ t, exec (.jnov a) s = .next t ∧ t.ot = false ∧ t.pc.toNat = (if s.ot then s.pc.toNat else e))) ∧
  (∀ (i : Instr) (s t : State), exec i s = .next t → s.ot = true → t.ot = false →
    ∃ a, i = .jov a ∨ i = .jnov a)

/-- The jumps on the comparison indicator branch iff CI has one of their values, and the jumps on a register iff the
state computed from its sign and magnitude (Equal for both zeros) has one of theirs; CI is not changed, nor the
register. -/
def Obligations.ConditionalJumps : Prop :=
  ∀ (a : Addr) (s : State) (e : Nat), s.dispatched = true → effectiveAddress a s = .ok e →
    (∀ i ts, (i, ts) ∈ indicatorJumps a →
      ∃ t, exec i s = .next t ∧ t.pc.toNat = (if s.ci ∈ ts then e else s.pc.toNat) ∧ t.ci = s.ci) ∧
    (∀ i r ts, (i, r, ts) ∈ registerJumps a →
      ∃ t, exec i s = .next t ∧
        t.pc.toNat = (if (if mag (s.readReg r) = 0 then Indicator.equal
            else if sign (s.readReg r) then Indicator.less else Indicator.greater) ∈ ts
          then e else s.pc.toNat) ∧
        t.ci = s.ci ∧ t.readReg r = s.readReg r)

/-- The frame of a jump: only PC, J (not for JSJ) and OT (for JOV and JNOV) may change. -/
def Obligations.JumpFrame : Prop :=
  ∀ (a : Addr) (i : Instr) (s t : State), i ∈ jumps a → exec i s = .next t →
    sameRegsBut [.j] s t ∧ (i = .jsj a → sameRegsBut [] s t) ∧ t.ci = s.ci ∧
      (i ≠ .jov a → i ≠ .jnov a → t.ot = s.ot) ∧ sameMem s t ∧ sameModel s t

/-! ### Shift -/

/-- The four plain shifts complete for every distance n: the magnitude of A, or of the ten bytes A:X, moves by n bytes
with zeros moving in; signs and everything else stay. -/
def Obligations.PlainShifts : Prop :=
  ∀ (a : Addr) (s : State) (n : Nat), effectiveAddress a s = .ok n →
    (∃ t, exec (.sla a) s = .next t ∧ mag t.regA = mag s.regA * 64 ^ n % 2 ^ 30 ∧ sign t.regA = sign s.regA ∧
      sameRegsBut [.a] s t ∧ sameBeyondRegs s t) ∧
    (∃ t, exec (.sra a) s = .next t ∧ mag t.regA = mag s.regA / 64 ^ n ∧ sign t.regA = sign s.regA ∧
      sameRegsBut [.a] s t ∧ sameBeyondRegs s t) ∧
    (∃ t, exec (.slax a) s = .next t ∧ t.pairAX = s.pairAX * 64 ^ n % 2 ^ 60 ∧ sign t.regA = sign s.regA ∧
      sign t.regX = sign s.regX ∧ sameRegsBut [.a, .x] s t ∧ sameBeyondRegs s t) ∧
    (∃ t, exec (.srax a) s = .next t ∧ t.pairAX = s.pairAX / 64 ^ n ∧ sign t.regA = sign s.regA ∧
      sign t.regX = sign s.regX ∧ sameRegsBut [.a, .x] s t ∧ sameBeyondRegs s t)

/-- The two circulating shifts complete for every distance n and move byte k of A:X to byte k + n, or k - n, modulo 10;
signs (decision D17) and everything else stay. -/
def Obligations.CircularShiftsMoveBytes : Prop :=
  ∀ (a : Addr) (s : State) (n : Nat), effectiveAddress a s = .ok n →
    (∃ t, exec (.slc a) s = .next t ∧ (∀ k, k < 10 → t.pairByte ((k + n) % 10) = s.pairByte k) ∧
      sign t.regA = sign s.regA ∧ sign t.regX = sign s.regX ∧ sameRegsBut [.a, .x] s t ∧ sameBeyondRegs s t) ∧
    (∃ t, exec (.src a) s = .next t ∧ (∀ k, k < 10 → t.pairByte k = s.pairByte ((k + n) % 10)) ∧
      sign t.regA = sign s.regA ∧ sign t.regX = sign s.regX ∧ sameRegsBut [.a, .x] s t ∧ sameBeyondRegs s t)

/-- SRC undoes SLC of the same distance; SLC by n is SRC by 10 - (n mod 10); and SRC by 5 swaps the two halves. -/
def Obligations.CircularShiftsCancel : Prop :=
  (∀ (a : Addr) (s : State) (n : Nat), effectiveAddress a s = .ok n →
    ∃ t, exec (.slc a) s = .next t ∧ exec (.src a) t = .next s) ∧
  (∀ (a b : Addr) (s : State) (n : Nat), effectiveAddress a s = .ok n →
    effectiveAddress b s = .ok (10 - n % 10) → exec (.slc a) s = exec (.src b) s) ∧
  (∀ (a : Addr) (s : State), effectiveAddress a s = .ok 5 →
    ∃ t, exec (.src a) s = .next t ∧ mag t.regA = mag s.regX ∧ mag t.regX = mag s.regA)

/-! ### Move -/

/-- MOVE: a count of 0 does nothing, whatever I1 and the address (decision D8); a range that leaves memory faults before
anything is written (decision D9); otherwise the words arrive unless the destination starts inside the source range, I1
advances by the count, and nothing else changes. -/
def Obligations.MoveRule : Prop :=
  ∀ (a : Addr) (count : Byte) (s : State) (src : Nat), s.mem.wf = true → effectiveAddress a s = .ok src →
    (count = 0 → exec (.move a count) s = .next s) ∧
    (count ≠ 0 →
      (4000 < src + count.toNat ∨ toInt (s.readReg .i1) < 0 ∨ 4000 < toInt (s.readReg .i1) + count.toNat →
        exec (.move a count) s =
          .fault (.raised (.invalidAddress (.move src (toInt (s.readReg .i1)) count.toNat)) s)) ∧
      (∀ d : Nat, toInt (s.readReg .i1) = d → src + count.toNat ≤ 4000 → d + count.toNat ≤ 4000 →
        ∃ t, exec (.move a count) s = .next t ∧ t.readReg .i1 = mkword false (d + count.toNat) ∧
          (¬ (src < d ∧ d < src + count.toNat) →
            ∀ k, k < count.toNat → t.mem.read (d + k) = s.mem.read (src + k)) ∧
          (∀ b, b < d ∨ d + count.toNat ≤ b → t.mem.read b = s.mem.read b) ∧
          sameRegsBut [.i1] s t ∧ t.pc = s.pc ∧ sameFlags s t ∧ sameModel s t))

/-- The ascending copy of an overlapping MOVE: a destination that starts inside the source range receives the leading
words over and over (forward overlap); a destination that starts before it receives an exact copy (backward overlap). -/
def Obligations.MoveOverlap : Prop :=
  ∀ (a : Addr) (count : Byte) (s : State) (src d : Nat), s.mem.wf = true → effectiveAddress a s = .ok src →
    toInt (s.readReg .i1) = d → src + count.toNat ≤ 4000 → d + count.toNat ≤ 4000 →
    (src < d → d < src + count.toNat →
      ∃ t, exec (.move a count) s = .next t ∧ t.readReg .i1 = mkword false (d + count.toNat) ∧
        ∀ k, k < count.toNat → t.mem.read (d + k) = s.mem.read (src + k % (d - src))) ∧
    (d < src → src < d + count.toNat →
      ∃ t, exec (.move a count) s = .next t ∧ t.readReg .i1 = mkword false (d + count.toNat) ∧
        ∀ k, k < count.toNat → t.mem.read (d + k) = s.mem.read (src + k))

/-- The frame of MOVE: only I1 and the destination range, the count words from the value of I1 on, may change. -/
def Obligations.MoveFrame : Prop :=
  ∀ (a : Addr) (count : Byte) (s t : State), exec (.move a count) s = .next t →
    (∀ b : Nat, (b : Int) < toInt (s.readReg .i1) ∨ toInt (s.readReg .i1) + count.toNat ≤ b →
      t.mem.read b = s.mem.read b) ∧
    sameRegsBut [.i1] s t ∧ t.pc = s.pc ∧ sameFlags s t ∧ sameModel s t

/-! ### All instructions -/

/-- The frame of every instruction that neither stores nor jumps: only the registers it names, CI for a comparison, OT
for an instruction that may set it, and the draw counter for DIV (log 3) may change. -/
def Obligations.RegisterOnlyFrame : Prop :=
  ∀ (a : Addr) (f : Byte) (i : Instr) (ds : List Reg) (s t : State),
    (i, ds) ∈ registerOnly a f → exec i s = .next t →
    sameRegsBut ds s t ∧ t.pc = s.pc ∧ sameMem s t ∧ t.zeroSumSign = s.zeroSumSign ∧
      ((∀ r, (i, r) ∉ compares a f) → t.ci = s.ci) ∧ (i ∉ toggleSetters a f → t.ot = s.ot) ∧
      (s.ot = true → t.ot = true) ∧ (i ≠ .div a f → t.draws = s.draws)

/-- The unimplemented instructions fault with UnknownOpcode and their C and F, and change nothing (decision D5). -/
def Obligations.UnimplementedFault : Prop :=
  ∀ (a : Addr) (f : Byte) (i : Instr) (c g : Byte) (s : State), (i, c, g) ∈ unimplementeds a f →
    exec i s = .fault (.raised (.unknownOpcode c g) s)

/-- Which instructions may change each shared piece of state: CI only comparisons; OT only the additions and DIV, which
set it, and JOV and JNOV, which clear it; PC and J only jumps (J not JSJ); memory only stores and MOVE; the parameter
nothing and the draw counter DIV (log 2, log 3). -/
def Obligations.StateWriters : Prop :=
  ∀ (i : Instr) (s t : State), exec i s = .next t →
    (t.ci ≠ s.ci → ∃ a f r, (i, r) ∈ compares a f) ∧
    (t.ot ≠ s.ot → (t.ot = true ∧ ∃ a f, i ∈ toggleSetters a f) ∨ (t.ot = false ∧ ∃ a, i = .jov a ∨ i = .jnov a)) ∧
    (t.pc ≠ s.pc → ∃ a, i ∈ jumps a) ∧
    (t.regJ ≠ s.regJ → ∃ a, i ∈ jumps a ∧ i ≠ .jsj a) ∧
    (¬ sameMem s t → (∃ a f r, (i, r) ∈ stores a f) ∨ ∃ a n, i = .move a n) ∧
    t.zeroSumSign = s.zeroSumSign ∧
    (t.draws ≠ s.draws → ∃ a f, i = .div a f)

/-- The model's draw counter is invisible: a step that draws nothing, completed or faulting, does the same from every
value of it; a fault always draws nothing (log 3). -/
def Obligations.DrawCounterIsInvisible : Prop :=
  ∀ (s : State) (n : Nat),
    (∀ t, step s = .next t → t.draws = s.draws → step (s.setDraws n) = .next (t.setDraws n)) ∧
    (∀ c t, step s = .fault (.raised c t) →
      t.draws = s.draws ∧ step (s.setDraws n) = .fault (.raised c (t.setDraws n)))

/-! ### The host port -/

/-- The host's peeks and pokes (decisions D13, D22): the address before the value, the value before the narrowing; a
failing poke changes nothing; a successful one writes that word or register only. -/
def Obligations.HostPeeksAndPokes : Prop :=
  ∀ (s : State) (a w : Nat) (r : Reg), s.mem.wf = true →
    serve (.peekMemory a) s = (if a < 4000 then .word (s.mem.read a) else .err (.invalidAddress (.word a)), s) ∧
    (4000 ≤ a → serve (.pokeMemory a w) s = (.err (.invalidAddress (.word a)), s)) ∧
    (a < 4000 → 2 ^ 31 ≤ w → serve (.pokeMemory a w) s = (.err (.invalidWordValue w), s)) ∧
    (a < 4000 → w < 2 ^ 31 → ∃ t, serve (.pokeMemory a w) s = (.ok, t) ∧ (t.mem.read a).toNat = w ∧
      sameMemBut a s t ∧ sameRegsBut [] s t ∧ t.pc = s.pc ∧ sameFlags s t ∧ sameModel s t) ∧
    serve (.peekRegister r) s = (.word (s.readReg r), s) ∧
    (2 ^ 31 ≤ w → serve (.pokeRegister r w) s = (.err (.invalidWordValue w), s)) ∧
    (w < 2 ^ 31 → r.wide = false → 2 ^ 12 ≤ w % 2 ^ 30 →
      serve (.pokeRegister r w) s = (.err (.registerNarrowingError (BitVec.ofNat 31 w)), s)) ∧
    (w < 2 ^ 31 → r.wide = true ∨ w % 2 ^ 30 < 2 ^ 12 →
      ∃ t, serve (.pokeRegister r w) s = (.ok, t) ∧ (t.readReg r).toNat = w ∧ sameRegsBut [r] s t ∧
        sameBeyondRegs s t)

/-- The host reads OT and CI; no command but a step or `new` changes OT, CI or PC (decision D14); a step command returns
the step's outcome and, after a fault, goes on from the state the fault left; `new` gives the reset state,
but for the two fields of the model's own, `zeroSumSign` and `draws`, which it keeps by the model's choice (log 6). -/
def Obligations.HostStepAndFlags : Prop :=
  ∀ s : State,
    serve .peekOverflowToggle s = (.toggle s.ot, s) ∧
    serve .peekComparisonIndicator s = (.indicator s.ci, s) ∧
    (∀ c : Command, c ≠ .new → c ≠ .step → (serve c s).2.pc = s.pc ∧ sameFlags s (serve c s).2) ∧
    (∀ t, step s = .next t → serve .step s = (.ok, t)) ∧
    (∀ c t, step s = .fault (.raised c t) → serve .step s = (.err c, t)) ∧
    serve .new s = (.ok, { State.reset with zeroSumSign := s.zeroSumSign, draws := s.draws })

/-- Whatever commands the host issues, in whatever order, a sound machine stays sound. -/
def Obligations.SessionsKeepSound : Prop :=
  ∀ (cs : List Command) (s : State), s.sound = true → (serveAll cs s).sound = true
end

