-- ==== Sys2Proof/Laws/Codec.lean ====
section
/-! SUPPORT. The small lemmas of the codec: what a word's sign and magnitude are after each of its operations. -/

namespace Sys2Proof.Machine

theorem mag_lt (w : Word) : mag w < 2 ^ 30 := Nat.mod_lt _ (by decide)

/-- The number of a word is its sign bit and its magnitude (00 R8). -/
theorem toNat_eq (w : Word) : w.toNat = (sign w).toNat * 2 ^ 30 + mag w := by
  have h := w.isLt
  unfold sign mag
  rw [BitVec.msb_eq_decide]
  by_cases hs : 2 ^ 30 ≤ w.toNat
  · simp only [Nat.reduceSub, hs, decide_true, Bool.toNat_true]; omega
  · simp only [Nat.reduceSub, hs, decide_false, Bool.toNat_false]; omega

/-- A word is its sign and its magnitude. -/
theorem word_ext {v w : Word} (hs : sign v = sign w) (hm : mag v = mag w) : v = w := by
  apply BitVec.eq_of_toNat_eq; rw [toNat_eq v, toNat_eq w, hs, hm]

theorem toNat_mkword (s : Bool) {m : Nat} (h : m < 2 ^ 30) : (mkword s m).toNat = s.toNat * 2 ^ 30 + m := by
  have := Bool.toNat_le s
  simp only [mkword, BitVec.toNat_ofNat]; omega

@[simp] theorem mag_mkword (s : Bool) {m : Nat} (h : m < 2 ^ 30) : mag (mkword s m) = m := by
  unfold mag; rw [toNat_mkword s h]; omega

@[simp] theorem sign_mkword (s : Bool) {m : Nat} (h : m < 2 ^ 30) : sign (mkword s m) = s := by
  have e := toNat_eq (mkword s m)
  rw [toNat_mkword s h, mag_mkword s h] at e
  cases s <;> cases hx : sign (mkword _ m) <;> simp_all

@[simp] theorem mkword_sign_mag (w : Word) : mkword (sign w) (mag w) = w :=
  word_ext (sign_mkword _ (mag_lt w)) (mag_mkword _ (mag_lt w))

theorem negate_eq (w : Word) : negate w = mkword (!sign w) (mag w) := by
  apply BitVec.eq_of_toNat_eq
  rw [toNat_mkword _ (mag_lt w)]
  have e := toNat_eq w
  have hm := mag_lt w
  have hx : (negate w).toNat = w.toNat ^^^ 2 ^ 30 := by simp [negate]
  rw [hx, e]
  have h1 : (2 ^ 30 + mag w) = 2 ^ 30 ||| mag w := Nat.two_pow_add_eq_or_of_lt hm 1 |>.symm ▸ by simp
  have h2 : (mag w).testBit 30 = false := Nat.testBit_lt_two_pow hm
  have key : mag w ^^^ 2 ^ 30 = 2 ^ 30 + mag w := by
    rw [h1]
    apply Nat.eq_of_testBit_eq
    intro i
    by_cases hi : i = 30
    · subst hi; simp [h2]
    · have : (2 ^ 30 : Nat).testBit i = false := by
        rw [Nat.testBit_two_pow]; simp; omega
      simp only [Nat.testBit_xor, Nat.testBit_or, this]; simp
  cases sign w
  · simpa using key
  · have : 2 ^ 30 + mag w ^^^ 2 ^ 30 = mag w := by
      rw [← key, Nat.xor_assoc, Nat.xor_self, Nat.xor_zero]
    simpa using this

@[simp] theorem sign_negate (w : Word) : sign (negate w) = !sign w := by
  rw [negate_eq, sign_mkword _ (mag_lt w)]

@[simp] theorem mag_negate (w : Word) : mag (negate w) = mag w := by
  rw [negate_eq, mag_mkword _ (mag_lt w)]

theorem narrow_mag_lt (n : Narrow) : n.mag.toNat < 2 ^ 30 := by have := n.mag.isLt; omega

@[simp] theorem sign_widen (n : Narrow) : sign (widen n) = n.sign := sign_mkword _ (narrow_mag_lt n)

@[simp] theorem mag_widen (n : Narrow) : mag (widen n) = n.mag.toNat := mag_mkword _ (narrow_mag_lt n)

/-- The widening is lossless (40 R106). -/
theorem widen_injective {m n : Narrow} (h : widen m = widen n) : m = n := by
  have hs : m.sign = n.sign := by rw [← sign_widen m, h, sign_widen]
  have hm : m.mag = n.mag := by
    apply BitVec.eq_of_toNat_eq; rw [← mag_widen m, h, mag_widen]
  cases m; cases n; simp_all

/-- What `narrow` can do: its value widens back to the word, and it succeeds iff the magnitude has 12 bits. -/
theorem narrow_ok_iff {w : Word} {n : Narrow} : narrow w = .ok n ↔ widen n = w := by
  unfold narrow
  constructor
  · intro h
    split at h
    · cases h
      apply word_ext
      · simp
      · simp only [mag_widen, BitVec.toNat_ofNat]; omega
    · cases h
  · rintro rfl
    have := n.mag.isLt
    rw [if_pos (by simpa using this)]
    simp

theorem narrow_error_iff {w : Word} {c : FaultCause} :
    narrow w = .error c ↔ 2 ^ 12 ≤ mag w ∧ c = .registerNarrowingError w := by
  unfold narrow
  split
  · simp; omega
  · constructor
    · intro h; cases h; exact ⟨by omega, rfl⟩
    · rintro ⟨-, rfl⟩; rfl

theorem toInt_natAbs (w : Word) : (toInt w).natAbs = mag w := by
  unfold toInt; split <;> omega

theorem toInt_bounds (w : Word) : -(2 ^ 30 - 1) ≤ toInt w ∧ toInt w ≤ 2 ^ 30 - 1 := by
  have := mag_lt w
  unfold toInt; split <;> omega

theorem toInt_mkword (s : Bool) {m : Nat} (h : m < 2 ^ 30) :
    toInt (mkword s m) = if s then -(m : Int) else m := by
  unfold toInt; rw [sign_mkword s h, mag_mkword s h]

theorem toInt_negate (w : Word) : toInt (negate w) = -toInt w := by
  unfold toInt; rw [sign_negate, mag_negate]; cases sign w <;> simp

theorem toInt_widen (n : Narrow) : toInt (widen n) = if n.sign then -(n.mag.toNat : Int) else n.mag.toNat := by
  unfold toInt; rw [sign_widen, mag_widen]

theorem toInt_widen_bounds (n : Narrow) : -4095 ≤ toInt (widen n) ∧ toInt (widen n) ≤ 4095 := by
  have := n.mag.isLt
  rw [toInt_widen]; split <;> omega

/-- The 21 legal field specs (40 R100), as a case split. -/
theorem legalField_cases {f : Byte} (h : legalField f = true) :
    f ∈ ([0, 1, 2, 3, 4, 5, 9, 10, 11, 12, 13, 18, 19, 20, 21, 27, 28, 29, 36, 37, 45] : List Byte) := by
  revert f; decide

/-- The truncated magnitude fits its bytes, hence a word. -/
theorem truncated_lt (v : Word) {f : Byte} (h : legalField f = true) :
    mag v / 2 ^ (6 * (5 - fieldR f)) % 2 ^ (6 * fieldBytes f) < 2 ^ 30 := by
  have hb : fieldBytes f ≤ 5 := by
    unfold fieldBytes fieldFirst; simp only [legalField, Bool.and_eq_true, decide_eq_true_eq] at h; omega
  calc mag v / 2 ^ (6 * (5 - fieldR f)) % 2 ^ (6 * fieldBytes f)
      < 2 ^ (6 * fieldBytes f) := Nat.mod_lt _ (by positivity)
    _ ≤ 2 ^ 30 := Nat.pow_le_pow_right (by decide) (by omega)

theorem truncateToField_ok_iff {v w : Word} {f : Byte} :
    truncateToField v f = .ok w ↔ legalField f = true ∧
      w = mkword (decide (fieldL f = 0) && sign v)
        (mag v / 2 ^ (6 * (5 - fieldR f)) % 2 ^ (6 * fieldBytes f)) := by
  unfold truncateToField
  split
  · rename_i h; simp [h]; exact eq_comm
  · rename_i h; simp [h]

theorem truncateToField_error_iff {v : Word} {f : Byte} {c : FaultCause} :
    truncateToField v f = .error c ↔ legalField f = false ∧ c = .invalidFieldSpec f := by
  unfold truncateToField
  split
  · rename_i h; simp [h]
  · rename_i h; simp [h]; exact eq_comm

theorem embedFromField_error_iff {v w : Word} {f : Byte} {c : FaultCause} :
    embedFromField v w f = .error c ↔ legalField f = false ∧ c = .invalidFieldSpec f := by
  unfold embedFromField
  split
  · rename_i h; simp [h]
  · rename_i h; simp [h]; exact eq_comm

end Sys2Proof.Machine
end

