-- ==== Sys2Proof/Laws/Decode.lean ====
section
/-! SUPPORT. The fields of a word and the word of its fields (30 R70, R88). -/

namespace Sys2Proof

theorem toNat_append_eq {m n : Nat} (x : BitVec m) (y : BitVec n) :
    (x ++ y).toNat = x.toNat * 2 ^ n + y.toNat := by
  rw [BitVec.toNat_append, ← Nat.shiftLeft_add_eq_or_of_lt y.isLt, Nat.shiftLeft_eq]

/-- The number of a packed word: `s * 2^30 + aa * 2^18 + i * 2^12 + f * 2^6 + c` (30 R88). -/
theorem toNat_pack (a : Addr) (f c : Byte) :
    (pack a f c).toNat = a.sign.toNat * 2 ^ 30 + a.aa.toNat * 2 ^ 18 + a.i.toNat * 2 ^ 12 + f.toNat * 2 ^ 6 + c.toNat := by
  have h : (pack a f c).toNat =
      (((a.sign.toNat * 2 ^ 12 + a.aa.toNat) * 2 ^ 6 + a.i.toNat) * 2 ^ 6 + f.toNat) * 2 ^ 6 + c.toNat := by
    unfold pack
    rw [toNat_append_eq, toNat_append_eq, toNat_append_eq, toNat_append_eq, BitVec.toNat_ofBool]
  omega

theorem toNat_opcodeOf (w : Word) : (opcodeOf w).toNat = w.toNat % 2 ^ 6 := by
  simp [opcodeOf, BitVec.extractLsb'_toNat]

theorem toNat_fieldOf (w : Word) : (fieldOf w).toNat = w.toNat / 2 ^ 6 % 2 ^ 6 := by
  simp [fieldOf, BitVec.extractLsb'_toNat, Nat.shiftRight_eq_div_pow]

theorem toNat_addrOf_i (w : Word) : (addrOf w).i.toNat = w.toNat / 2 ^ 12 % 2 ^ 6 := by
  simp [addrOf, BitVec.extractLsb'_toNat, Nat.shiftRight_eq_div_pow]

theorem toNat_addrOf_aa (w : Word) : (addrOf w).aa.toNat = w.toNat / 2 ^ 18 % 2 ^ 12 := by
  simp [addrOf, BitVec.extractLsb'_toNat, Nat.shiftRight_eq_div_pow]

theorem toNat_addrOf_sign (w : Word) : (addrOf w).sign.toNat = w.toNat / 2 ^ 30 % 2 := by
  simp only [addrOf, BitVec.getLsbD, Nat.testBit_eq_decide_div_mod_eq]
  rcases Nat.mod_two_eq_zero_or_one (w.toNat / 2 ^ 30) with h | h <;> rw [h] <;> rfl

@[simp] theorem opcodeOf_pack (a : Addr) (f c : Byte) : opcodeOf (pack a f c) = c := by
  apply BitVec.eq_of_toNat_eq
  rw [toNat_opcodeOf, toNat_pack]
  have := c.isLt; omega

@[simp] theorem fieldOf_pack (a : Addr) (f c : Byte) : fieldOf (pack a f c) = f := by
  apply BitVec.eq_of_toNat_eq
  rw [toNat_fieldOf, toNat_pack]
  have := c.isLt; have := f.isLt; omega

theorem Addr.ext_toNat {a b : Addr} (hs : a.sign.toNat = b.sign.toNat) (ha : a.aa.toNat = b.aa.toNat)
    (hi : a.i.toNat = b.i.toNat) : a = b := by
  obtain ⟨s, _, _⟩ := a
  obtain ⟨s', _, _⟩ := b
  congr
  · revert hs; cases s <;> cases s' <;> simp
  · exact BitVec.eq_of_toNat_eq ha
  · exact BitVec.eq_of_toNat_eq hi

@[simp] theorem addrOf_pack (a : Addr) (f c : Byte) : addrOf (pack a f c) = a := by
  have h1 := c.isLt
  have h2 := f.isLt
  have h3 := a.i.isLt
  have h4 := a.aa.isLt
  have h5 := Bool.toNat_le a.sign
  apply Addr.ext_toNat
  · rw [toNat_addrOf_sign, toNat_pack]; omega
  · rw [toNat_addrOf_aa, toNat_pack]; omega
  · rw [toNat_addrOf_i, toNat_pack]; omega

/-- A word is its five fields. -/
theorem pack_fields (w : Word) : pack (addrOf w) (fieldOf w) (opcodeOf w) = w := by
  apply BitVec.eq_of_toNat_eq
  rw [toNat_pack, toNat_addrOf_sign, toNat_addrOf_aa, toNat_addrOf_i, toNat_fieldOf, toNat_opcodeOf]
  have := w.isLt; omega

/-- The decoder reads a packed word's fields. -/
theorem decode_pack (a : Addr) (f c : Byte) : decode (pack a f c) = decodeFields c f a := by
  simp [decode]

end Sys2Proof
end

