-- ==== Sys2Proof/Laws/Memory.lean ====
section
/-! SUPPORT. The laws of memory: reading after writing, and the canonical form kept by every operation. -/

namespace Sys2Proof.Machine

/-- A write leaves every other address alone (20 R52). -/
theorem Memory.read_write_other (m : Memory) {a b : Nat} (w : Word) (h : b ≠ a) :
    Memory.read (Memory.write m a w) b = Memory.read m b := by
  induction m with
  | nil => unfold write; split <;> simp [read, h]
  | cons c m ih =>
    obtain ⟨x, v⟩ := c
    unfold write
    split
    · split <;> simp [read, h]
    · split
      · rename_i hax
        subst hax
        split <;> simp [read, h]
      · simp only [read, ih]

theorem Memory.wfFrom_mono {lo hi : Nat} (hle : hi ≤ lo) {m : Memory} (h : Memory.wfFrom lo m = true) :
    Memory.wfFrom hi m = true := by
  cases m with
  | nil => rfl
  | cons c m =>
    simp only [wfFrom, Bool.and_eq_true, decide_eq_true_eq] at h ⊢
    exact ⟨⟨⟨by omega, h.1.1.2⟩, h.1.2⟩, h.2⟩

/-- In canonical form an address below every listed one is not listed. -/
theorem Memory.read_below {lo a : Nat} (ha : a < lo) {m : Memory} (h : Memory.wfFrom lo m = true) :
    Memory.read m a = Memory.unlisted := by
  induction m generalizing lo with
  | nil => rfl
  | cons c m ih =>
    obtain ⟨x, v⟩ := c
    simp only [wfFrom, Bool.and_eq_true, decide_eq_true_eq] at h
    simp only [read]
    rw [if_neg (by omega)]
    exact ih (by omega) h.2

theorem Memory.read_write_same_from {lo : Nat} {m : Memory} (h : Memory.wfFrom lo m = true) (a : Nat) (w : Word) :
    Memory.read (Memory.write m a w) a = w := by
  induction m generalizing lo with
  | nil => unfold write; split <;> simp_all [read]
  | cons c m ih =>
    obtain ⟨x, v⟩ := c
    have h0 := h
    simp only [wfFrom, Bool.and_eq_true, decide_eq_true_eq] at h
    unfold write
    split
    · rename_i hax
      split
      · rename_i hw
        simp only [read]
        rw [if_neg (by omega), hw]
        exact read_below (by omega) h.2
      · simp [read]
    · split
      · rename_i hax
        split
        · rename_i hw; rw [hw]; exact read_below (by omega) h.2
        · simp [read]
      · rename_i h1 h2
        simp only [read, if_neg h2]
        exact ih h.2

/-- A read after a write to the same address gives the written word (20 R52). -/
theorem Memory.read_write_same {m : Memory} (h : m.wf = true) (a : Nat) (w : Word) :
    Memory.read (Memory.write m a w) a = w := Memory.read_write_same_from h a w

theorem Memory.wfFrom_write {lo : Nat} {m : Memory} (h : Memory.wfFrom lo m = true) {a : Nat} (hlo : lo ≤ a)
    (ha : a < 4000) (w : Word) : Memory.wfFrom lo (Memory.write m a w) = true := by
  induction m generalizing lo with
  | nil => unfold write; split <;> simp_all [wfFrom]
  | cons c m ih =>
    obtain ⟨x, v⟩ := c
    have h0 := h
    simp only [wfFrom, Bool.and_eq_true, decide_eq_true_eq] at h
    unfold write
    split
    · split
      · exact h0
      · simp only [wfFrom, Bool.and_eq_true, decide_eq_true_eq]
        refine ⟨⟨⟨by omega, ha⟩, ‹_›⟩, ⟨⟨by omega, by omega⟩, h.1.2⟩, h.2⟩
    · split
      · split
        · exact wfFrom_mono (by omega) h.2
        · simp only [wfFrom, Bool.and_eq_true, decide_eq_true_eq]
          refine ⟨⟨⟨by omega, ha⟩, ‹_›⟩, ?_⟩
          rename_i hax _
          rw [hax]; exact h.2
      · simp only [wfFrom, Bool.and_eq_true, decide_eq_true_eq]
        exact ⟨h.1, ih h.2 (by omega)⟩

/-- A write keeps memory in canonical form. -/
theorem Memory.wf_write {m : Memory} (h : m.wf = true) {a : Nat} (ha : a < 4000) (w : Word) :
    (Memory.write m a w).wf = true := Memory.wfFrom_write h (Nat.zero_le _) ha w

/-- Memory after reset is in canonical form. -/
theorem Memory.wf_reset : State.reset.mem.wf = true := rfl

end Sys2Proof.Machine
end

