-- ==== Sys2Proof/Laws/State.lean ====
section
/-! SUPPORT. One lemma per field per update of the state, and what the registers read after an update. Each is proved by
(rfl), in parentheses, so that simp rewrites with the lemma and the kernel never compares two whole states by unfolding
2^30. -/

namespace Sys2Proof.Machine

variable (s : State)

@[simp] theorem State.setA_regA (v : Word) : (s.setA v).regA = v := (rfl)
@[simp] theorem State.setA_regX (v : Word) : (s.setA v).regX = s.regX := (rfl)
@[simp] theorem State.setA_regI1 (v : Word) : (s.setA v).regI1 = s.regI1 := (rfl)
@[simp] theorem State.setA_regI2 (v : Word) : (s.setA v).regI2 = s.regI2 := (rfl)
@[simp] theorem State.setA_regI3 (v : Word) : (s.setA v).regI3 = s.regI3 := (rfl)
@[simp] theorem State.setA_regI4 (v : Word) : (s.setA v).regI4 = s.regI4 := (rfl)
@[simp] theorem State.setA_regI5 (v : Word) : (s.setA v).regI5 = s.regI5 := (rfl)
@[simp] theorem State.setA_regI6 (v : Word) : (s.setA v).regI6 = s.regI6 := (rfl)
@[simp] theorem State.setA_regJ (v : Word) : (s.setA v).regJ = s.regJ := (rfl)
@[simp] theorem State.setA_pc (v : Word) : (s.setA v).pc = s.pc := (rfl)
@[simp] theorem State.setA_ot (v : Word) : (s.setA v).ot = s.ot := (rfl)
@[simp] theorem State.setA_ci (v : Word) : (s.setA v).ci = s.ci := (rfl)
@[simp] theorem State.setA_mem (v : Word) : (s.setA v).mem = s.mem := (rfl)
@[simp] theorem State.setA_zeroSumSign (v : Word) : (s.setA v).zeroSumSign = s.zeroSumSign := (rfl)
@[simp] theorem State.setA_draws (v : Word) : (s.setA v).draws = s.draws := (rfl)

@[simp] theorem State.setX_regA (v : Word) : (s.setX v).regA = s.regA := (rfl)
@[simp] theorem State.setX_regX (v : Word) : (s.setX v).regX = v := (rfl)
@[simp] theorem State.setX_regI1 (v : Word) : (s.setX v).regI1 = s.regI1 := (rfl)
@[simp] theorem State.setX_regI2 (v : Word) : (s.setX v).regI2 = s.regI2 := (rfl)
@[simp] theorem State.setX_regI3 (v : Word) : (s.setX v).regI3 = s.regI3 := (rfl)
@[simp] theorem State.setX_regI4 (v : Word) : (s.setX v).regI4 = s.regI4 := (rfl)
@[simp] theorem State.setX_regI5 (v : Word) : (s.setX v).regI5 = s.regI5 := (rfl)
@[simp] theorem State.setX_regI6 (v : Word) : (s.setX v).regI6 = s.regI6 := (rfl)
@[simp] theorem State.setX_regJ (v : Word) : (s.setX v).regJ = s.regJ := (rfl)
@[simp] theorem State.setX_pc (v : Word) : (s.setX v).pc = s.pc := (rfl)
@[simp] theorem State.setX_ot (v : Word) : (s.setX v).ot = s.ot := (rfl)
@[simp] theorem State.setX_ci (v : Word) : (s.setX v).ci = s.ci := (rfl)
@[simp] theorem State.setX_mem (v : Word) : (s.setX v).mem = s.mem := (rfl)
@[simp] theorem State.setX_zeroSumSign (v : Word) : (s.setX v).zeroSumSign = s.zeroSumSign := (rfl)
@[simp] theorem State.setX_draws (v : Word) : (s.setX v).draws = s.draws := (rfl)

@[simp] theorem State.setI1_regA (v : Narrow) : (s.setI1 v).regA = s.regA := (rfl)
@[simp] theorem State.setI1_regX (v : Narrow) : (s.setI1 v).regX = s.regX := (rfl)
@[simp] theorem State.setI1_regI1 (v : Narrow) : (s.setI1 v).regI1 = v := (rfl)
@[simp] theorem State.setI1_regI2 (v : Narrow) : (s.setI1 v).regI2 = s.regI2 := (rfl)
@[simp] theorem State.setI1_regI3 (v : Narrow) : (s.setI1 v).regI3 = s.regI3 := (rfl)
@[simp] theorem State.setI1_regI4 (v : Narrow) : (s.setI1 v).regI4 = s.regI4 := (rfl)
@[simp] theorem State.setI1_regI5 (v : Narrow) : (s.setI1 v).regI5 = s.regI5 := (rfl)
@[simp] theorem State.setI1_regI6 (v : Narrow) : (s.setI1 v).regI6 = s.regI6 := (rfl)
@[simp] theorem State.setI1_regJ (v : Narrow) : (s.setI1 v).regJ = s.regJ := (rfl)
@[simp] theorem State.setI1_pc (v : Narrow) : (s.setI1 v).pc = s.pc := (rfl)
@[simp] theorem State.setI1_ot (v : Narrow) : (s.setI1 v).ot = s.ot := (rfl)
@[simp] theorem State.setI1_ci (v : Narrow) : (s.setI1 v).ci = s.ci := (rfl)
@[simp] theorem State.setI1_mem (v : Narrow) : (s.setI1 v).mem = s.mem := (rfl)
@[simp] theorem State.setI1_zeroSumSign (v : Narrow) : (s.setI1 v).zeroSumSign = s.zeroSumSign := (rfl)
@[simp] theorem State.setI1_draws (v : Narrow) : (s.setI1 v).draws = s.draws := (rfl)

@[simp] theorem State.setI2_regA (v : Narrow) : (s.setI2 v).regA = s.regA := (rfl)
@[simp] theorem State.setI2_regX (v : Narrow) : (s.setI2 v).regX = s.regX := (rfl)
@[simp] theorem State.setI2_regI1 (v : Narrow) : (s.setI2 v).regI1 = s.regI1 := (rfl)
@[simp] theorem State.setI2_regI2 (v : Narrow) : (s.setI2 v).regI2 = v := (rfl)
@[simp] theorem State.setI2_regI3 (v : Narrow) : (s.setI2 v).regI3 = s.regI3 := (rfl)
@[simp] theorem State.setI2_regI4 (v : Narrow) : (s.setI2 v).regI4 = s.regI4 := (rfl)
@[simp] theorem State.setI2_regI5 (v : Narrow) : (s.setI2 v).regI5 = s.regI5 := (rfl)
@[simp] theorem State.setI2_regI6 (v : Narrow) : (s.setI2 v).regI6 = s.regI6 := (rfl)
@[simp] theorem State.setI2_regJ (v : Narrow) : (s.setI2 v).regJ = s.regJ := (rfl)
@[simp] theorem State.setI2_pc (v : Narrow) : (s.setI2 v).pc = s.pc := (rfl)
@[simp] theorem State.setI2_ot (v : Narrow) : (s.setI2 v).ot = s.ot := (rfl)
@[simp] theorem State.setI2_ci (v : Narrow) : (s.setI2 v).ci = s.ci := (rfl)
@[simp] theorem State.setI2_mem (v : Narrow) : (s.setI2 v).mem = s.mem := (rfl)
@[simp] theorem State.setI2_zeroSumSign (v : Narrow) : (s.setI2 v).zeroSumSign = s.zeroSumSign := (rfl)
@[simp] theorem State.setI2_draws (v : Narrow) : (s.setI2 v).draws = s.draws := (rfl)

@[simp] theorem State.setI3_regA (v : Narrow) : (s.setI3 v).regA = s.regA := (rfl)
@[simp] theorem State.setI3_regX (v : Narrow) : (s.setI3 v).regX = s.regX := (rfl)
@[simp] theorem State.setI3_regI1 (v : Narrow) : (s.setI3 v).regI1 = s.regI1 := (rfl)
@[simp] theorem State.setI3_regI2 (v : Narrow) : (s.setI3 v).regI2 = s.regI2 := (rfl)
@[simp] theorem State.setI3_regI3 (v : Narrow) : (s.setI3 v).regI3 = v := (rfl)
@[simp] theorem State.setI3_regI4 (v : Narrow) : (s.setI3 v).regI4 = s.regI4 := (rfl)
@[simp] theorem State.setI3_regI5 (v : Narrow) : (s.setI3 v).regI5 = s.regI5 := (rfl)
@[simp] theorem State.setI3_regI6 (v : Narrow) : (s.setI3 v).regI6 = s.regI6 := (rfl)
@[simp] theorem State.setI3_regJ (v : Narrow) : (s.setI3 v).regJ = s.regJ := (rfl)
@[simp] theorem State.setI3_pc (v : Narrow) : (s.setI3 v).pc = s.pc := (rfl)
@[simp] theorem State.setI3_ot (v : Narrow) : (s.setI3 v).ot = s.ot := (rfl)
@[simp] theorem State.setI3_ci (v : Narrow) : (s.setI3 v).ci = s.ci := (rfl)
@[simp] theorem State.setI3_mem (v : Narrow) : (s.setI3 v).mem = s.mem := (rfl)
@[simp] theorem State.setI3_zeroSumSign (v : Narrow) : (s.setI3 v).zeroSumSign = s.zeroSumSign := (rfl)
@[simp] theorem State.setI3_draws (v : Narrow) : (s.setI3 v).draws = s.draws := (rfl)

@[simp] theorem State.setI4_regA (v : Narrow) : (s.setI4 v).regA = s.regA := (rfl)
@[simp] theorem State.setI4_regX (v : Narrow) : (s.setI4 v).regX = s.regX := (rfl)
@[simp] theorem State.setI4_regI1 (v : Narrow) : (s.setI4 v).regI1 = s.regI1 := (rfl)
@[simp] theorem State.setI4_regI2 (v : Narrow) : (s.setI4 v).regI2 = s.regI2 := (rfl)
@[simp] theorem State.setI4_regI3 (v : Narrow) : (s.setI4 v).regI3 = s.regI3 := (rfl)
@[simp] theorem State.setI4_regI4 (v : Narrow) : (s.setI4 v).regI4 = v := (rfl)
@[simp] theorem State.setI4_regI5 (v : Narrow) : (s.setI4 v).regI5 = s.regI5 := (rfl)
@[simp] theorem State.setI4_regI6 (v : Narrow) : (s.setI4 v).regI6 = s.regI6 := (rfl)
@[simp] theorem State.setI4_regJ (v : Narrow) : (s.setI4 v).regJ = s.regJ := (rfl)
@[simp] theorem State.setI4_pc (v : Narrow) : (s.setI4 v).pc = s.pc := (rfl)
@[simp] theorem State.setI4_ot (v : Narrow) : (s.setI4 v).ot = s.ot := (rfl)
@[simp] theorem State.setI4_ci (v : Narrow) : (s.setI4 v).ci = s.ci := (rfl)
@[simp] theorem State.setI4_mem (v : Narrow) : (s.setI4 v).mem = s.mem := (rfl)
@[simp] theorem State.setI4_zeroSumSign (v : Narrow) : (s.setI4 v).zeroSumSign = s.zeroSumSign := (rfl)
@[simp] theorem State.setI4_draws (v : Narrow) : (s.setI4 v).draws = s.draws := (rfl)

@[simp] theorem State.setI5_regA (v : Narrow) : (s.setI5 v).regA = s.regA := (rfl)
@[simp] theorem State.setI5_regX (v : Narrow) : (s.setI5 v).regX = s.regX := (rfl)
@[simp] theorem State.setI5_regI1 (v : Narrow) : (s.setI5 v).regI1 = s.regI1 := (rfl)
@[simp] theorem State.setI5_regI2 (v : Narrow) : (s.setI5 v).regI2 = s.regI2 := (rfl)
@[simp] theorem State.setI5_regI3 (v : Narrow) : (s.setI5 v).regI3 = s.regI3 := (rfl)
@[simp] theorem State.setI5_regI4 (v : Narrow) : (s.setI5 v).regI4 = s.regI4 := (rfl)
@[simp] theorem State.setI5_regI5 (v : Narrow) : (s.setI5 v).regI5 = v := (rfl)
@[simp] theorem State.setI5_regI6 (v : Narrow) : (s.setI5 v).regI6 = s.regI6 := (rfl)
@[simp] theorem State.setI5_regJ (v : Narrow) : (s.setI5 v).regJ = s.regJ := (rfl)
@[simp] theorem State.setI5_pc (v : Narrow) : (s.setI5 v).pc = s.pc := (rfl)
@[simp] theorem State.setI5_ot (v : Narrow) : (s.setI5 v).ot = s.ot := (rfl)
@[simp] theorem State.setI5_ci (v : Narrow) : (s.setI5 v).ci = s.ci := (rfl)
@[simp] theorem State.setI5_mem (v : Narrow) : (s.setI5 v).mem = s.mem := (rfl)
@[simp] theorem State.setI5_zeroSumSign (v : Narrow) : (s.setI5 v).zeroSumSign = s.zeroSumSign := (rfl)
@[simp] theorem State.setI5_draws (v : Narrow) : (s.setI5 v).draws = s.draws := (rfl)

@[simp] theorem State.setI6_regA (v : Narrow) : (s.setI6 v).regA = s.regA := (rfl)
@[simp] theorem State.setI6_regX (v : Narrow) : (s.setI6 v).regX = s.regX := (rfl)
@[simp] theorem State.setI6_regI1 (v : Narrow) : (s.setI6 v).regI1 = s.regI1 := (rfl)
@[simp] theorem State.setI6_regI2 (v : Narrow) : (s.setI6 v).regI2 = s.regI2 := (rfl)
@[simp] theorem State.setI6_regI3 (v : Narrow) : (s.setI6 v).regI3 = s.regI3 := (rfl)
@[simp] theorem State.setI6_regI4 (v : Narrow) : (s.setI6 v).regI4 = s.regI4 := (rfl)
@[simp] theorem State.setI6_regI5 (v : Narrow) : (s.setI6 v).regI5 = s.regI5 := (rfl)
@[simp] theorem State.setI6_regI6 (v : Narrow) : (s.setI6 v).regI6 = v := (rfl)
@[simp] theorem State.setI6_regJ (v : Narrow) : (s.setI6 v).regJ = s.regJ := (rfl)
@[simp] theorem State.setI6_pc (v : Narrow) : (s.setI6 v).pc = s.pc := (rfl)
@[simp] theorem State.setI6_ot (v : Narrow) : (s.setI6 v).ot = s.ot := (rfl)
@[simp] theorem State.setI6_ci (v : Narrow) : (s.setI6 v).ci = s.ci := (rfl)
@[simp] theorem State.setI6_mem (v : Narrow) : (s.setI6 v).mem = s.mem := (rfl)
@[simp] theorem State.setI6_zeroSumSign (v : Narrow) : (s.setI6 v).zeroSumSign = s.zeroSumSign := (rfl)
@[simp] theorem State.setI6_draws (v : Narrow) : (s.setI6 v).draws = s.draws := (rfl)

@[simp] theorem State.setJ_regA (v : Narrow) : (s.setJ v).regA = s.regA := (rfl)
@[simp] theorem State.setJ_regX (v : Narrow) : (s.setJ v).regX = s.regX := (rfl)
@[simp] theorem State.setJ_regI1 (v : Narrow) : (s.setJ v).regI1 = s.regI1 := (rfl)
@[simp] theorem State.setJ_regI2 (v : Narrow) : (s.setJ v).regI2 = s.regI2 := (rfl)
@[simp] theorem State.setJ_regI3 (v : Narrow) : (s.setJ v).regI3 = s.regI3 := (rfl)
@[simp] theorem State.setJ_regI4 (v : Narrow) : (s.setJ v).regI4 = s.regI4 := (rfl)
@[simp] theorem State.setJ_regI5 (v : Narrow) : (s.setJ v).regI5 = s.regI5 := (rfl)
@[simp] theorem State.setJ_regI6 (v : Narrow) : (s.setJ v).regI6 = s.regI6 := (rfl)
@[simp] theorem State.setJ_regJ (v : Narrow) : (s.setJ v).regJ = v := (rfl)
@[simp] theorem State.setJ_pc (v : Narrow) : (s.setJ v).pc = s.pc := (rfl)
@[simp] theorem State.setJ_ot (v : Narrow) : (s.setJ v).ot = s.ot := (rfl)
@[simp] theorem State.setJ_ci (v : Narrow) : (s.setJ v).ci = s.ci := (rfl)
@[simp] theorem State.setJ_mem (v : Narrow) : (s.setJ v).mem = s.mem := (rfl)
@[simp] theorem State.setJ_zeroSumSign (v : Narrow) : (s.setJ v).zeroSumSign = s.zeroSumSign := (rfl)
@[simp] theorem State.setJ_draws (v : Narrow) : (s.setJ v).draws = s.draws := (rfl)

@[simp] theorem State.setPc_regA (v : BitVec 13) : (s.setPc v).regA = s.regA := (rfl)
@[simp] theorem State.setPc_regX (v : BitVec 13) : (s.setPc v).regX = s.regX := (rfl)
@[simp] theorem State.setPc_regI1 (v : BitVec 13) : (s.setPc v).regI1 = s.regI1 := (rfl)
@[simp] theorem State.setPc_regI2 (v : BitVec 13) : (s.setPc v).regI2 = s.regI2 := (rfl)
@[simp] theorem State.setPc_regI3 (v : BitVec 13) : (s.setPc v).regI3 = s.regI3 := (rfl)
@[simp] theorem State.setPc_regI4 (v : BitVec 13) : (s.setPc v).regI4 = s.regI4 := (rfl)
@[simp] theorem State.setPc_regI5 (v : BitVec 13) : (s.setPc v).regI5 = s.regI5 := (rfl)
@[simp] theorem State.setPc_regI6 (v : BitVec 13) : (s.setPc v).regI6 = s.regI6 := (rfl)
@[simp] theorem State.setPc_regJ (v : BitVec 13) : (s.setPc v).regJ = s.regJ := (rfl)
@[simp] theorem State.setPc_pc (v : BitVec 13) : (s.setPc v).pc = v := (rfl)
@[simp] theorem State.setPc_ot (v : BitVec 13) : (s.setPc v).ot = s.ot := (rfl)
@[simp] theorem State.setPc_ci (v : BitVec 13) : (s.setPc v).ci = s.ci := (rfl)
@[simp] theorem State.setPc_mem (v : BitVec 13) : (s.setPc v).mem = s.mem := (rfl)
@[simp] theorem State.setPc_zeroSumSign (v : BitVec 13) : (s.setPc v).zeroSumSign = s.zeroSumSign := (rfl)
@[simp] theorem State.setPc_draws (v : BitVec 13) : (s.setPc v).draws = s.draws := (rfl)

@[simp] theorem State.setOt_regA (v : Bool) : (s.setOt v).regA = s.regA := (rfl)
@[simp] theorem State.setOt_regX (v : Bool) : (s.setOt v).regX = s.regX := (rfl)
@[simp] theorem State.setOt_regI1 (v : Bool) : (s.setOt v).regI1 = s.regI1 := (rfl)
@[simp] theorem State.setOt_regI2 (v : Bool) : (s.setOt v).regI2 = s.regI2 := (rfl)
@[simp] theorem State.setOt_regI3 (v : Bool) : (s.setOt v).regI3 = s.regI3 := (rfl)
@[simp] theorem State.setOt_regI4 (v : Bool) : (s.setOt v).regI4 = s.regI4 := (rfl)
@[simp] theorem State.setOt_regI5 (v : Bool) : (s.setOt v).regI5 = s.regI5 := (rfl)
@[simp] theorem State.setOt_regI6 (v : Bool) : (s.setOt v).regI6 = s.regI6 := (rfl)
@[simp] theorem State.setOt_regJ (v : Bool) : (s.setOt v).regJ = s.regJ := (rfl)
@[simp] theorem State.setOt_pc (v : Bool) : (s.setOt v).pc = s.pc := (rfl)
@[simp] theorem State.setOt_ot (v : Bool) : (s.setOt v).ot = v := (rfl)
@[simp] theorem State.setOt_ci (v : Bool) : (s.setOt v).ci = s.ci := (rfl)
@[simp] theorem State.setOt_mem (v : Bool) : (s.setOt v).mem = s.mem := (rfl)
@[simp] theorem State.setOt_zeroSumSign (v : Bool) : (s.setOt v).zeroSumSign = s.zeroSumSign := (rfl)
@[simp] theorem State.setOt_draws (v : Bool) : (s.setOt v).draws = s.draws := (rfl)

@[simp] theorem State.setCi_regA (v : Indicator) : (s.setCi v).regA = s.regA := (rfl)
@[simp] theorem State.setCi_regX (v : Indicator) : (s.setCi v).regX = s.regX := (rfl)
@[simp] theorem State.setCi_regI1 (v : Indicator) : (s.setCi v).regI1 = s.regI1 := (rfl)
@[simp] theorem State.setCi_regI2 (v : Indicator) : (s.setCi v).regI2 = s.regI2 := (rfl)
@[simp] theorem State.setCi_regI3 (v : Indicator) : (s.setCi v).regI3 = s.regI3 := (rfl)
@[simp] theorem State.setCi_regI4 (v : Indicator) : (s.setCi v).regI4 = s.regI4 := (rfl)
@[simp] theorem State.setCi_regI5 (v : Indicator) : (s.setCi v).regI5 = s.regI5 := (rfl)
@[simp] theorem State.setCi_regI6 (v : Indicator) : (s.setCi v).regI6 = s.regI6 := (rfl)
@[simp] theorem State.setCi_regJ (v : Indicator) : (s.setCi v).regJ = s.regJ := (rfl)
@[simp] theorem State.setCi_pc (v : Indicator) : (s.setCi v).pc = s.pc := (rfl)
@[simp] theorem State.setCi_ot (v : Indicator) : (s.setCi v).ot = s.ot := (rfl)
@[simp] theorem State.setCi_ci (v : Indicator) : (s.setCi v).ci = v := (rfl)
@[simp] theorem State.setCi_mem (v : Indicator) : (s.setCi v).mem = s.mem := (rfl)
@[simp] theorem State.setCi_zeroSumSign (v : Indicator) : (s.setCi v).zeroSumSign = s.zeroSumSign := (rfl)
@[simp] theorem State.setCi_draws (v : Indicator) : (s.setCi v).draws = s.draws := (rfl)

@[simp] theorem State.setMem_regA (v : Memory) : (s.setMem v).regA = s.regA := (rfl)
@[simp] theorem State.setMem_regX (v : Memory) : (s.setMem v).regX = s.regX := (rfl)
@[simp] theorem State.setMem_regI1 (v : Memory) : (s.setMem v).regI1 = s.regI1 := (rfl)
@[simp] theorem State.setMem_regI2 (v : Memory) : (s.setMem v).regI2 = s.regI2 := (rfl)
@[simp] theorem State.setMem_regI3 (v : Memory) : (s.setMem v).regI3 = s.regI3 := (rfl)
@[simp] theorem State.setMem_regI4 (v : Memory) : (s.setMem v).regI4 = s.regI4 := (rfl)
@[simp] theorem State.setMem_regI5 (v : Memory) : (s.setMem v).regI5 = s.regI5 := (rfl)
@[simp] theorem State.setMem_regI6 (v : Memory) : (s.setMem v).regI6 = s.regI6 := (rfl)
@[simp] theorem State.setMem_regJ (v : Memory) : (s.setMem v).regJ = s.regJ := (rfl)
@[simp] theorem State.setMem_pc (v : Memory) : (s.setMem v).pc = s.pc := (rfl)
@[simp] theorem State.setMem_ot (v : Memory) : (s.setMem v).ot = s.ot := (rfl)
@[simp] theorem State.setMem_ci (v : Memory) : (s.setMem v).ci = s.ci := (rfl)
@[simp] theorem State.setMem_mem (v : Memory) : (s.setMem v).mem = v := (rfl)
@[simp] theorem State.setMem_zeroSumSign (v : Memory) : (s.setMem v).zeroSumSign = s.zeroSumSign := (rfl)
@[simp] theorem State.setMem_draws (v : Memory) : (s.setMem v).draws = s.draws := (rfl)

@[simp] theorem State.setDraws_regA (v : Nat) : (s.setDraws v).regA = s.regA := (rfl)
@[simp] theorem State.setDraws_regX (v : Nat) : (s.setDraws v).regX = s.regX := (rfl)
@[simp] theorem State.setDraws_regI1 (v : Nat) : (s.setDraws v).regI1 = s.regI1 := (rfl)
@[simp] theorem State.setDraws_regI2 (v : Nat) : (s.setDraws v).regI2 = s.regI2 := (rfl)
@[simp] theorem State.setDraws_regI3 (v : Nat) : (s.setDraws v).regI3 = s.regI3 := (rfl)
@[simp] theorem State.setDraws_regI4 (v : Nat) : (s.setDraws v).regI4 = s.regI4 := (rfl)
@[simp] theorem State.setDraws_regI5 (v : Nat) : (s.setDraws v).regI5 = s.regI5 := (rfl)
@[simp] theorem State.setDraws_regI6 (v : Nat) : (s.setDraws v).regI6 = s.regI6 := (rfl)
@[simp] theorem State.setDraws_regJ (v : Nat) : (s.setDraws v).regJ = s.regJ := (rfl)
@[simp] theorem State.setDraws_pc (v : Nat) : (s.setDraws v).pc = s.pc := (rfl)
@[simp] theorem State.setDraws_ot (v : Nat) : (s.setDraws v).ot = s.ot := (rfl)
@[simp] theorem State.setDraws_ci (v : Nat) : (s.setDraws v).ci = s.ci := (rfl)
@[simp] theorem State.setDraws_mem (v : Nat) : (s.setDraws v).mem = s.mem := (rfl)
@[simp] theorem State.setDraws_zeroSumSign (v : Nat) : (s.setDraws v).zeroSumSign = s.zeroSumSign := (rfl)
@[simp] theorem State.setDraws_draws (v : Nat) : (s.setDraws v).draws = v := (rfl)

theorem State.readReg_setA (v : Word) (r : Reg) :
    (s.setA v).readReg r = if r = .a then v else s.readReg r := by
  cases r <;> rfl

theorem State.readReg_setX (v : Word) (r : Reg) :
    (s.setX v).readReg r = if r = .x then v else s.readReg r := by
  cases r <;> rfl

theorem State.readReg_setI1 (v : Narrow) (r : Reg) :
    (s.setI1 v).readReg r = if r = .i1 then widen v else s.readReg r := by
  cases r <;> rfl

theorem State.readReg_setI2 (v : Narrow) (r : Reg) :
    (s.setI2 v).readReg r = if r = .i2 then widen v else s.readReg r := by
  cases r <;> rfl

theorem State.readReg_setI3 (v : Narrow) (r : Reg) :
    (s.setI3 v).readReg r = if r = .i3 then widen v else s.readReg r := by
  cases r <;> rfl

theorem State.readReg_setI4 (v : Narrow) (r : Reg) :
    (s.setI4 v).readReg r = if r = .i4 then widen v else s.readReg r := by
  cases r <;> rfl

theorem State.readReg_setI5 (v : Narrow) (r : Reg) :
    (s.setI5 v).readReg r = if r = .i5 then widen v else s.readReg r := by
  cases r <;> rfl

theorem State.readReg_setI6 (v : Narrow) (r : Reg) :
    (s.setI6 v).readReg r = if r = .i6 then widen v else s.readReg r := by
  cases r <;> rfl

theorem State.readReg_setJ (v : Narrow) (r : Reg) :
    (s.setJ v).readReg r = if r = .j then widen v else s.readReg r := by
  cases r <;> rfl

@[simp] theorem State.readReg_setPc (v : BitVec 13) (r : Reg) : (s.setPc v).readReg r = s.readReg r := by
  cases r <;> rfl

@[simp] theorem State.readReg_setOt (v : Bool) (r : Reg) : (s.setOt v).readReg r = s.readReg r := by
  cases r <;> rfl

@[simp] theorem State.readReg_setCi (v : Indicator) (r : Reg) : (s.setCi v).readReg r = s.readReg r := by
  cases r <;> rfl

@[simp] theorem State.readReg_setMem (v : Memory) (r : Reg) : (s.setMem v).readReg r = s.readReg r := by
  cases r <;> rfl

@[simp] theorem State.readReg_setDraws (v : Nat) (r : Reg) : (s.setDraws v).readReg r = s.readReg r := by
  cases r <;> rfl

@[simp] theorem State.advancePc_regA : s.advancePc.regA = s.regA := (rfl)
@[simp] theorem State.advancePc_regX : s.advancePc.regX = s.regX := (rfl)
@[simp] theorem State.advancePc_regI1 : s.advancePc.regI1 = s.regI1 := (rfl)
@[simp] theorem State.advancePc_regI2 : s.advancePc.regI2 = s.regI2 := (rfl)
@[simp] theorem State.advancePc_regI3 : s.advancePc.regI3 = s.regI3 := (rfl)
@[simp] theorem State.advancePc_regI4 : s.advancePc.regI4 = s.regI4 := (rfl)
@[simp] theorem State.advancePc_regI5 : s.advancePc.regI5 = s.regI5 := (rfl)
@[simp] theorem State.advancePc_regI6 : s.advancePc.regI6 = s.regI6 := (rfl)
@[simp] theorem State.advancePc_regJ : s.advancePc.regJ = s.regJ := (rfl)
@[simp] theorem State.advancePc_pc : s.advancePc.pc = s.pc + 1 := (rfl)
@[simp] theorem State.advancePc_ot : s.advancePc.ot = s.ot := (rfl)
@[simp] theorem State.advancePc_ci : s.advancePc.ci = s.ci := (rfl)
@[simp] theorem State.advancePc_mem : s.advancePc.mem = s.mem := (rfl)
@[simp] theorem State.advancePc_zeroSumSign : s.advancePc.zeroSumSign = s.zeroSumSign := (rfl)
@[simp] theorem State.advancePc_draws : s.advancePc.draws = s.draws := (rfl)
@[simp] theorem State.readReg_advancePc (r : Reg) : s.advancePc.readReg r = s.readReg r := by
  cases r <;> rfl

end Sys2Proof.Machine
end

