-- ==== Sys2Proof/Laws/Ops.lean ====
section
/-! SUPPORT. What each shared operation can do, said once: the state monad of a handler, memory accesses, register
writes, the end of a handler. -/

namespace Sys2Proof.Machine

/-! ### Handlers in `Except` -/

theorem bind_eq_ok {α β : Type} {x : Except FaultCause α} {f : α → Except FaultCause β} {b : β} :
    (x >>= f) = .ok b ↔ ∃ a, x = .ok a ∧ f a = .ok b := by
  cases x <;> simp [bind, Except.bind]

theorem bind_eq_error {α β : Type} {x : Except FaultCause α} {f : α → Except FaultCause β} {c : FaultCause} :
    (x >>= f) = .error c ↔ x = .error c ∨ ∃ a, x = .ok a ∧ f a = .error c := by
  cases x <;> simp [bind, Except.bind]

theorem map_eq_ok {α β : Type} {x : Except FaultCause α} {f : α → β} {b : β} :
    x.map f = .ok b ↔ ∃ a, x = .ok a ∧ f a = b := by
  cases x <;> simp [Except.map]

theorem map_eq_error {α β : Type} {x : Except FaultCause α} {f : α → β} {c : FaultCause} :
    x.map f = .error c ↔ x = .error c := by
  cases x <;> simp [Except.map]

/-! ### The end of a handler -/

@[simp] theorem conclude_ok (s t : State) : conclude s (.ok t) = .next t := rfl

@[simp] theorem conclude_error (s : State) (c : FaultCause) : conclude s (.error c) = raise c s := rfl

theorem conclude_eq_next {s t : State} {x : Except FaultCause State} : conclude s x = .next t ↔ x = .ok t := by
  cases x <;> simp [conclude, raise]

/-- A handler that ends in a fault leaves the state it started from. -/
theorem conclude_eq_fault {s : State} {x : Except FaultCause State} {q : Fault} :
    conclude s x = .fault q ↔ ∃ c, x = .error c ∧ q = .raised c s := by
  cases x <;> simp [conclude, raise]; exact eq_comm

theorem conclude_ne_refused {s : State} {x : Except FaultCause State} {r : Refusal} : conclude s x ≠ .refused r := by
  cases x <;> simp [conclude, raise]

@[simp] theorem resume_raised (c : FaultCause) (s : State) : (Fault.raised c s).resume = s := rfl

@[simp] theorem cause_raised (c : FaultCause) (s : State) : (Fault.raised c s).cause = c := rfl

/-! ### Memory accesses -/

theorem memRead_ok_iff {s : State} {a : Nat} {w : Word} : s.memRead a = .ok w ↔ a < 4000 ∧ w = s.mem.read a := by
  unfold State.memRead; split <;> simp_all; exact eq_comm

theorem memRead_error_iff {s : State} {a : Nat} {c : FaultCause} :
    s.memRead a = .error c ↔ 4000 ≤ a ∧ c = .invalidAddress (.word a) := by
  unfold State.memRead
  split
  · simp; omega
  · simp only [Except.error.injEq]; constructor
    · rintro rfl; exact ⟨by omega, rfl⟩
    · rintro ⟨-, rfl⟩; rfl

theorem memWrite_ok_iff {s t : State} {a : Nat} {w : Word} :
    s.memWrite a w = .ok t ↔ a < 4000 ∧ t = s.setMem (s.mem.write a w) := by
  unfold State.memWrite; split <;> simp_all; exact eq_comm

theorem memWrite_error_iff {s : State} {a : Nat} {w : Word} {c : FaultCause} :
    s.memWrite a w = .error c ↔ 4000 ≤ a ∧ c = .invalidAddress (.word a) := by
  unfold State.memWrite
  split
  · simp; omega
  · simp only [Except.error.injEq]; constructor
    · rintro rfl; exact ⟨by omega, rfl⟩
    · rintro ⟨-, rfl⟩; rfl

/-! ### Register writes -/

/-- What a register write does: the register reads as the word, and nothing else changes. -/
theorem writeReg_ok {s t : State} {r : Reg} {w : Word} (h : s.writeReg r w = .ok t) :
    t.readReg r = w ∧ sameRegsBut [r] s t ∧ sameBeyondRegs s t ∧ t.mem = s.mem := by
  cases r
  case a =>
    cases h
    refine ⟨rfl, ?_, ⟨rfl, ⟨rfl, rfl⟩, fun _ => rfl, rfl, rfl⟩, rfl⟩
    intro q hq; cases q <;> first | exact absurd (List.mem_singleton.mpr rfl) hq | rfl
  case x =>
    cases h
    refine ⟨rfl, ?_, ⟨rfl, ⟨rfl, rfl⟩, fun _ => rfl, rfl, rfl⟩, rfl⟩
    intro q hq; cases q <;> first | exact absurd (List.mem_singleton.mpr rfl) hq | rfl
  all_goals
    obtain ⟨n, hn, rfl⟩ := map_eq_ok.mp h
    refine ⟨narrow_ok_iff.mp hn, ?_, ⟨rfl, ⟨rfl, rfl⟩, fun _ => rfl, rfl, rfl⟩, rfl⟩
    intro q hq; cases q <;> first | exact absurd (List.mem_singleton.mpr rfl) hq | rfl

/-- A write to a wide register succeeds; to a narrow one iff the magnitude has 12 bits. -/
theorem writeReg_error_iff {s : State} {r : Reg} {w : Word} {c : FaultCause} :
    s.writeReg r w = .error c ↔ r.wide = false ∧ 2 ^ 12 ≤ mag w ∧ c = .registerNarrowingError w := by
  cases r
  case a => exact ⟨fun h => (nomatch h), fun h => (nomatch h.1)⟩
  case x => exact ⟨fun h => (nomatch h), fun h => (nomatch h.1)⟩
  all_goals
    rw [State.writeReg, map_eq_error, narrow_error_iff]
    exact ⟨fun h => ⟨rfl, h⟩, fun h => h.2⟩

theorem writeReg_succeeds {s : State} {r : Reg} {w : Word} (h : r.wide = true ∨ mag w < 2 ^ 12) :
    ∃ t, s.writeReg r w = .ok t := by
  cases hx : s.writeReg r w with
  | ok t => exact ⟨t, rfl⟩
  | error c =>
    obtain ⟨h1, h2, -⟩ := writeReg_error_iff.mp hx
    rcases h with h | h
    · rw [h1] at h; cases h
    · omega

/-- Two states with the same registers, flags, PC, memory and model fields are one. -/
theorem state_ext {s t : State} (hr : ∀ r, t.readReg r = s.readReg r) (hpc : t.pc = s.pc) (ho : t.ot = s.ot)
    (hc : t.ci = s.ci) (hm : t.mem = s.mem) (hz : t.zeroSumSign = s.zeroSumSign) (hd : t.draws = s.draws) : t = s := by
  have w1 := widen_injective (hr .i1)
  have w2 := widen_injective (hr .i2)
  have w3 := widen_injective (hr .i3)
  have w4 := widen_injective (hr .i4)
  have w5 := widen_injective (hr .i5)
  have w6 := widen_injective (hr .i6)
  have wj := widen_injective (hr .j)
  have ha := hr .a
  have hx := hr .x
  cases s; cases t
  simp_all [State.readReg]

end Sys2Proof.Machine
end

