-- ==== Sys2Proof/Laws/Operands.lean ====
section
/-! SUPPORT. What the operand forms answer, said once (41 R133 to R135, 42 R150). -/

namespace Sys2Proof.Machine

theorem aval_bounds (a : Addr) : -4095 ≤ aval a ∧ aval a ≤ 4095 := by
  have := a.aa.isLt
  unfold aval; split <;> omega

/-- The index specs 1..6 name a register, an index register; the others none. -/
theorem indexRegister_some_iff {i : Byte} {r : Reg} :
    indexRegister i = some r ↔
      (i = 1 ∧ r = .i1) ∨ (i = 2 ∧ r = .i2) ∨ (i = 3 ∧ r = .i3) ∨ (i = 4 ∧ r = .i4) ∨ (i = 5 ∧ r = .i5) ∨
        (i = 6 ∧ r = .i6) := by
  revert i; cases r <;> decide

theorem indexRegister_none_iff {i : Byte} : indexRegister i = none ↔ i = 0 ∨ 7 ≤ i.toNat := by
  revert i; decide

/-- The index computation faults iff I is 7 or more (41 R133). -/
theorem indexValue_error_iff {i : Byte} {s : State} {c : FaultCause} :
    indexValue i s = .error c ↔ 7 ≤ i.toNat ∧ c = .invalidIndexSpec i := by
  unfold indexValue
  split
  · rename_i h; subst h; simp
  · rename_i h
    cases hr : indexRegister i with
    | none =>
      have := (indexRegister_none_iff.mp hr).resolve_left h
      simp [this]; exact eq_comm
    | some r =>
      have : ¬ 7 ≤ i.toNat := fun h7 => by rw [indexRegister_none_iff.mpr (.inr h7)] at hr; cases hr
      simp; omega

theorem indexValue_bounds {i : Byte} {s : State} {v : Int} (h : indexValue i s = .ok v) : -4095 ≤ v ∧ v ≤ 4095 := by
  unfold indexValue at h
  split at h
  · cases h; omega
  · split at h
    · rename_i r hr
      cases h
      rcases indexRegister_some_iff.mp hr with h | h | h | h | h | h <;>
        (rw [h.2]; exact toInt_widen_bounds _)
    · cases h

theorem indexedAddress_ok_iff {a : Addr} {s : State} {m : Int} :
    indexedAddress a s = .ok m ↔ ∃ v, indexValue a.i s = .ok v ∧ m = aval a + v := by
  unfold indexedAddress; rw [map_eq_ok]; simp [eq_comm]

theorem indexedAddress_error_iff {a : Addr} {s : State} {c : FaultCause} :
    indexedAddress a s = .error c ↔ 7 ≤ a.i.toNat ∧ c = .invalidIndexSpec a.i := by
  unfold indexedAddress; rw [map_eq_error, indexValue_error_iff]

theorem indexedAddress_bounds {a : Addr} {s : State} {m : Int} (h : indexedAddress a s = .ok m) :
    -8190 ≤ m ∧ m ≤ 8190 := by
  obtain ⟨v, hv, rfl⟩ := indexedAddress_ok_iff.mp h
  have := indexValue_bounds hv
  have := aval_bounds a
  omega

theorem effectiveAddress_ok_iff {a : Addr} {s : State} {e : Nat} :
    effectiveAddress a s = .ok e ↔ indexedAddress a s = .ok (e : Int) := by
  unfold effectiveAddress; rw [bind_eq_ok]
  constructor
  · rintro ⟨m, hm, h⟩
    split at h
    · cases h
    · cases h; rw [hm]; congr 1; omega
  · intro h
    exact ⟨e, h, by rw [if_neg (by omega)]; rfl⟩

theorem effectiveAddress_error_iff {a : Addr} {s : State} {c : FaultCause} :
    effectiveAddress a s = .error c ↔
      (7 ≤ a.i.toNat ∧ c = .invalidIndexSpec a.i) ∨
        ∃ m, indexedAddress a s = .ok m ∧ m < 0 ∧ c = .negativeEffectiveAddress m := by
  unfold effectiveAddress; rw [bind_eq_error, indexedAddress_error_iff]
  constructor
  · rintro (h | ⟨m, hm, h⟩)
    · exact .inl h
    · split at h
      · cases h; exact .inr ⟨m, hm, ‹_›, rfl⟩
      · cases h
  · rintro (h | ⟨m, hm, h0, rfl⟩)
    · exact .inl h
    · exact .inr ⟨m, hm, by rw [if_pos h0]⟩

/-- An effective address fits the program counter (10 R30). -/
theorem effectiveAddress_le {a : Addr} {s : State} {e : Nat} (h : effectiveAddress a s = .ok e) : e ≤ 8190 := by
  have := indexedAddress_bounds (effectiveAddress_ok_iff.mp h)
  omega

theorem fieldOperand_ok_iff {a : Addr} {f : Byte} {s : State} {v : Word} :
    fieldOperand a f s = .ok v ↔
      ∃ e, effectiveAddress a s = .ok e ∧ e < 4000 ∧ truncateToField (s.mem.read e) f = .ok v := by
  unfold fieldOperand
  simp only [bind_eq_ok, memRead_ok_iff]
  constructor
  · rintro ⟨e, he, w, ⟨hlt, rfl⟩, hv⟩; exact ⟨e, he, hlt, hv⟩
  · rintro ⟨e, he, hlt, hv⟩; exact ⟨e, he, _, ⟨hlt, rfl⟩, hv⟩

/-- The operand's checks, in their order (60 R373). -/
theorem fieldOperand_error_iff {a : Addr} {f : Byte} {s : State} {c : FaultCause} :
    fieldOperand a f s = .error c ↔
      effectiveAddress a s = .error c ∨
        ∃ e, effectiveAddress a s = .ok e ∧
          ((4000 ≤ e ∧ c = .invalidAddress (.word e)) ∨
            (e < 4000 ∧ legalField f = false ∧ c = .invalidFieldSpec f)) := by
  unfold fieldOperand
  simp only [bind_eq_error, memRead_error_iff, memRead_ok_iff, truncateToField_error_iff]
  constructor
  · rintro (h | ⟨e, he, h | ⟨w, ⟨hlt, rfl⟩, h⟩⟩)
    · exact .inl h
    · exact .inr ⟨e, he, .inl h⟩
    · exact .inr ⟨e, he, .inr ⟨hlt, h⟩⟩
  · rintro (h | ⟨e, he, h | ⟨hlt, h⟩⟩)
    · exact .inl h
    · exact .inr ⟨e, he, .inl h⟩
    · exact .inr ⟨e, he, .inr ⟨_, ⟨hlt, rfl⟩, h⟩⟩

theorem addressWord_spec (a : Addr) (negateValue : Bool) {m : Int} (h : m.natAbs < 2 ^ 30) :
    mag (addressWord a negateValue m) = m.natAbs ∧
      sign (addressWord a negateValue m) = Bool.xor (if m = 0 then a.sign else decide (m < 0)) negateValue ∧
      toInt (addressWord a negateValue m) = if negateValue then -m else m := by
  have hm : toInt (mkword (if m = 0 then a.sign else decide (m < 0)) m.natAbs) = m := by
    rw [toInt_mkword _ h]
    by_cases h0 : m = 0
    · subst h0; simp
    · by_cases hn : m < 0
      · simp only [h0, hn, decide_true, if_true, if_false]; omega
      · simp only [h0, hn, decide_false, if_false, Bool.false_eq_true]; omega
  cases negateValue
  · simp only [addressWord]
    refine ⟨mag_mkword _ h, ?_, by simpa using hm⟩
    simpa using sign_mkword _ h
  · simp only [addressWord, if_true]
    refine ⟨by rw [mag_negate, mag_mkword _ h], ?_, by rw [toInt_negate, hm]⟩
    rw [sign_negate, sign_mkword _ h]; simp

end Sys2Proof.Machine
end

