-- ==== Sys2Proof/Laws/Handlers.lean ====
section
/-! SUPPORT. What each family's handler can do, said once: if it answers a state, then these conditions held and this is
the state; if it answers a fault, then it is one of these. -/

namespace Sys2Proof.Machine

/-! ### Load, store, comparison -/

theorem loadOp_ok_iff {r : Reg} {negative : Bool} {a : Addr} {f : Byte} {s t : State} :
    loadOp r negative a f s = .ok t ↔
      ∃ v, fieldOperand a f s = .ok v ∧ s.writeReg r (if negative then negate v else v) = .ok t := by
  unfold loadOp; rw [bind_eq_ok]

theorem loadOp_error_iff {r : Reg} {negative : Bool} {a : Addr} {f : Byte} {s : State} {c : FaultCause} :
    loadOp r negative a f s = .error c ↔
      fieldOperand a f s = .error c ∨
        ∃ v, fieldOperand a f s = .ok v ∧ s.writeReg r (if negative then negate v else v) = .error c := by
  unfold loadOp; rw [bind_eq_error]

theorem storeOp_ok_iff {v : Word} {a : Addr} {f : Byte} {s t : State} :
    storeOp v a f s = .ok t ↔
      ∃ e new, effectiveAddress a s = .ok e ∧ e < 4000 ∧ embedFromField v (s.mem.read e) f = .ok new ∧
        t = s.setMem (s.mem.write e new) := by
  unfold storeOp
  simp only [bind_eq_ok, memRead_ok_iff, memWrite_ok_iff]
  constructor
  · rintro ⟨e, he, old, ⟨hlt, rfl⟩, new, hn, -, rfl⟩; exact ⟨e, new, he, hlt, hn, rfl⟩
  · rintro ⟨e, new, he, hlt, hn, rfl⟩; exact ⟨e, he, _, ⟨hlt, rfl⟩, new, hn, hlt, rfl⟩

theorem storeOp_error_iff {v : Word} {a : Addr} {f : Byte} {s : State} {c : FaultCause} :
    storeOp v a f s = .error c ↔
      effectiveAddress a s = .error c ∨
        ∃ e, effectiveAddress a s = .ok e ∧
          ((4000 ≤ e ∧ c = .invalidAddress (.word e)) ∨
            (e < 4000 ∧ legalField f = false ∧ c = .invalidFieldSpec f)) := by
  unfold storeOp
  simp only [bind_eq_error, memRead_error_iff, memRead_ok_iff, memWrite_error_iff, embedFromField_error_iff]
  constructor
  · rintro (h | ⟨e, he, h | ⟨w, ⟨hlt, rfl⟩, h | ⟨_, -, h4, -⟩⟩⟩)
    · exact .inl h
    · exact .inr ⟨e, he, .inl h⟩
    · exact .inr ⟨e, he, .inr ⟨hlt, h⟩⟩
    · omega
  · rintro (h | ⟨e, he, h | ⟨hlt, h⟩⟩)
    · exact .inl h
    · exact .inr ⟨e, he, .inl h⟩
    · exact .inr ⟨e, he, .inr ⟨_, ⟨hlt, rfl⟩, .inl h⟩⟩

theorem compareOp_ok_iff {r : Reg} {a : Addr} {f : Byte} {s t : State} :
    compareOp r a f s = .ok t ↔
      ∃ vm vr, fieldOperand a f s = .ok vm ∧ truncateToField (s.readReg r) f = .ok vr ∧
        t = s.setCi (compareInts (toInt vr) (toInt vm)) := by
  unfold compareOp
  simp only [bind_eq_ok]
  constructor
  · rintro ⟨vm, hm, vr, hr, h⟩; cases h; exact ⟨vm, vr, hm, hr, rfl⟩
  · rintro ⟨vm, vr, hm, hr, rfl⟩; exact ⟨vm, hm, vr, hr, rfl⟩

/-- A comparison faults only for its operand: a field spec that is legal for memory is legal for the register. -/
theorem compareOp_error_iff {r : Reg} {a : Addr} {f : Byte} {s : State} {c : FaultCause} :
    compareOp r a f s = .error c ↔ fieldOperand a f s = .error c := by
  unfold compareOp
  simp only [bind_eq_error]
  constructor
  · rintro (h | ⟨vm, hm, h | ⟨vr, -, h⟩⟩)
    · exact h
    · obtain ⟨e, -, -, ht⟩ := fieldOperand_ok_iff.mp hm
      rw [truncateToField_ok_iff] at ht
      rw [truncateToField_error_iff, ht.1] at h
      cases h.1
    · cases h
  · exact .inl

/-! ### Arithmetic and address transfer -/

/-- Signed addition into A or X (41 R136). -/
theorem signedAdd_wide {r : Reg} (hr : r.wide = true) (v : Word) (s : State) :
    signedAdd r v s = (s.noteOverflow (toInt (s.readReg r) + toInt v)).writeReg r
      (mkword (sumSign s.zeroSumSign (s.readReg r) (toInt (s.readReg r) + toInt v))
        ((toInt (s.readReg r) + toInt v).natAbs % 2 ^ 30)) := by
  unfold signedAdd; rw [if_pos hr]

/-- Signed addition into an index register (41 R136). -/
theorem signedAdd_narrow {r : Reg} (hr : r.wide = false) (v : Word) (s : State) :
    signedAdd r v s = if 2 ^ 12 ≤ (toInt (s.readReg r) + toInt v).natAbs
      then .error (.undefinedOverflow (toInt (s.readReg r) + toInt v))
      else s.writeReg r (mkword (sumSign s.zeroSumSign (s.readReg r) (toInt (s.readReg r) + toInt v))
        (toInt (s.readReg r) + toInt v).natAbs) := by
  unfold signedAdd; rw [if_neg (by simp [hr])]

/-- OT after a signed addition: set on overflow, else as before; nothing else changes. -/
theorem noteOverflow_eq (s : State) (sum : Int) : s.noteOverflow sum = s.setOt (s.ot || wideOverflow sum) := by
  unfold State.noteOverflow
  split
  · rename_i h; simp [h]
  · rename_i h
    have h' : wideOverflow sum = false := by simpa using h
    rw [h', Bool.or_false]; rfl

/-- Everything a signed addition can do when it answers a state. -/
theorem signedAdd_ok {r : Reg} {v : Word} {s t : State} (h : signedAdd r v s = .ok t) :
    sameRegsBut [r] s t ∧ t.pc = s.pc ∧ t.ci = s.ci ∧ t.mem = s.mem ∧ sameModel s t ∧
      t.ot = (s.ot || (r.wide && wideOverflow (toInt (s.readReg r) + toInt v))) ∧
      mag (t.readReg r) = (toInt (s.readReg r) + toInt v).natAbs % 2 ^ 30 ∧
      sign (t.readReg r) = sumSign s.zeroSumSign (s.readReg r) (toInt (s.readReg r) + toInt v) := by
  cases hw : r.wide with
  | true =>
    rw [signedAdd_wide hw, noteOverflow_eq] at h
    obtain ⟨h1, h2, ⟨h3, ⟨h4, h5⟩, -, h6⟩, h7⟩ := writeReg_ok h
    have hlt : (toInt (s.readReg r) + toInt v).natAbs % 2 ^ 30 < 2 ^ 30 := Nat.mod_lt _ (by decide)
    refine ⟨fun q hq => by simpa using h2 q hq, h3, h5, h7, h6, by simpa using h4, ?_, ?_⟩
    · rw [h1, mag_mkword _ hlt]
    · rw [h1, sign_mkword _ hlt]
  | false =>
    rw [signedAdd_narrow hw] at h
    split at h
    · cases h
    · rename_i hlt
      obtain ⟨h1, h2, ⟨h3, ⟨h4, h5⟩, -, h6⟩, h7⟩ := writeReg_ok h
      have hlt' : (toInt (s.readReg r) + toInt v).natAbs < 2 ^ 30 := by omega
      refine ⟨h2, h3, h5, h7, h6, by simpa using h4, ?_, ?_⟩
      · rw [h1, mag_mkword _ hlt', Nat.mod_eq_of_lt hlt']
      · rw [h1, sign_mkword _ hlt']

/-- A signed addition faults iff its register is narrow and the exact sum has more than 12 bits (45 R213). -/
theorem signedAdd_error_iff {r : Reg} {v : Word} {s : State} {c : FaultCause} :
    signedAdd r v s = .error c ↔
      r.wide = false ∧ 2 ^ 12 ≤ (toInt (s.readReg r) + toInt v).natAbs ∧
        c = .undefinedOverflow (toInt (s.readReg r) + toInt v) := by
  cases hw : r.wide with
  | true => rw [signedAdd_wide hw, writeReg_error_iff, hw]; simp
  | false =>
    rw [signedAdd_narrow hw]
    split
    · rename_i h
      constructor
      · intro e; cases e; exact ⟨rfl, h, rfl⟩
      · rintro ⟨-, -, rfl⟩; rfl
    · rename_i h
      rw [writeReg_error_iff, mag_mkword _ (by omega)]
      constructor
      · rintro ⟨-, h', -⟩; exact absurd h' h
      · rintro ⟨-, h', -⟩; exact absurd h' h

theorem addOp_ok_iff {subtract : Bool} {a : Addr} {f : Byte} {s t : State} :
    addOp subtract a f s = .ok t ↔
      ∃ v, fieldOperand a f s = .ok v ∧ signedAdd .a (if subtract then negate v else v) s = .ok t := by
  unfold addOp; rw [bind_eq_ok]

/-- The sum never faults: ADD and SUB fault only for their operand (44 R191). -/
theorem addOp_error_iff {subtract : Bool} {a : Addr} {f : Byte} {s : State} {c : FaultCause} :
    addOp subtract a f s = .error c ↔ fieldOperand a f s = .error c := by
  unfold addOp
  rw [bind_eq_error]
  constructor
  · rintro (h | ⟨v, -, h⟩)
    · exact h
    · cases (signedAdd_error_iff.mp h).1
  · exact .inl

theorem mulOp_ok_iff {a : Addr} {f : Byte} {s t : State} :
    mulOp a f s = .ok t ↔ ∃ v, fieldOperand a f s = .ok v ∧ t = multiply v s := by
  unfold mulOp
  rw [bind_eq_ok]
  simp [eq_comm]

theorem mulOp_error_iff {a : Addr} {f : Byte} {s : State} {c : FaultCause} :
    mulOp a f s = .error c ↔ fieldOperand a f s = .error c := by
  unfold mulOp; rw [bind_eq_error]; simp

theorem divOp_ok_iff {a : Addr} {f : Byte} {s t : State} :
    divOp a f s = .ok t ↔ ∃ v, fieldOperand a f s = .ok v ∧ divide v s = .ok t := by
  unfold divOp; rw [bind_eq_ok]

theorem divide_error_iff {v : Word} {s : State} {c : FaultCause} :
    divide v s = .error c ↔ mag v = 0 ∧ c = .divisionByZero v := by
  unfold divide
  split
  · rename_i h; simp [h]; exact eq_comm
  · rename_i h
    simp only [h, false_and, iff_false]
    split <;> simp

theorem divOp_error_iff {a : Addr} {f : Byte} {s : State} {c : FaultCause} :
    divOp a f s = .error c ↔
      fieldOperand a f s = .error c ∨
        ∃ v, fieldOperand a f s = .ok v ∧ mag v = 0 ∧ c = .divisionByZero v := by
  unfold divOp; rw [bind_eq_error]; simp only [divide_error_iff]

/-- Writing A and X leaves the other registers alone. -/
theorem readReg_setAX {q : Reg} (hq : q ∉ [Reg.a, Reg.x]) (s : State) (v w : Word) :
    ((s.setA v).setX w).readReg q = s.readReg q := by
  cases q
  case a => exact absurd (List.mem_cons_self ..) hq
  case x => exact absurd (List.mem_cons_of_mem _ (List.mem_cons_self ..)) hq
  all_goals simp [State.readReg]

/-- DIV changes A, X, OT and the draw counter at most, and never clears OT. -/
theorem divide_ok {v : Word} {s t : State} (h : divide v s = .ok t) :
    sameRegsBut [.a, .x] s t ∧ t.pc = s.pc ∧ t.ci = s.ci ∧ t.mem = s.mem ∧ t.zeroSumSign = s.zeroSumSign ∧
      t.ot = (s.ot || decide (mag v ≤ mag s.regA)) := by
  by_cases h0 : mag v = 0
  · rw [divide, if_pos h0] at h; cases h
  · by_cases hv : mag v ≤ mag s.regA
    · simp only [divide, if_neg h0, if_pos hv, Except.ok.injEq] at h
      subst h
      refine ⟨fun q hq => ?_, by simp, by simp, by simp, by simp, by simp [hv]⟩
      rw [State.readReg_setDraws, readReg_setAX hq, State.readReg_setOt]
    · simp only [divide, if_neg h0, if_neg hv, Except.ok.injEq] at h
      subst h
      exact ⟨fun q hq => readReg_setAX hq .., by simp, by simp, by simp, by simp, by simp [hv]⟩

theorem addrXferOp_ok_iff {r : Reg} {negateValue increase : Bool} {a : Addr} {s t : State} :
    addrXferOp r negateValue increase a s = .ok t ↔
      ∃ m, indexedAddress a s = .ok m ∧
        (if increase then signedAdd r (addressWord a negateValue m) s
          else s.writeReg r (addressWord a negateValue m)) = .ok t := by
  unfold addrXferOp; rw [bind_eq_ok]

theorem addrXferOp_error_iff {r : Reg} {negateValue increase : Bool} {a : Addr} {s : State} {c : FaultCause} :
    addrXferOp r negateValue increase a s = .error c ↔
      indexedAddress a s = .error c ∨
        ∃ m, indexedAddress a s = .ok m ∧
          (if increase then signedAdd r (addressWord a negateValue m) s
            else s.writeReg r (addressWord a negateValue m)) = .error c := by
  unfold addrXferOp; rw [bind_eq_error]

/-! ### Jump -/

/-- Saving the return address in a dispatched state (47 R271). -/
theorem saveReturn_eq {sub : Nat} {s : State} (h : s.pc.toNat ≤ 4000) :
    saveReturn sub s = .ok (if sub = 1 then s else s.setJ ⟨false, BitVec.ofNat 12 s.pc.toNat⟩) := by
  unfold saveReturn
  split
  · rfl
  · have hn : narrow (mkword false s.pc.toNat) = .ok ⟨false, BitVec.ofNat 12 s.pc.toNat⟩ := by
      unfold narrow
      rw [mag_mkword _ (by omega), sign_mkword _ (by omega), if_pos (by omega)]
    simp [State.writeReg, hn, Except.map]

theorem saveReturn_ok {sub : Nat} {s t : State} (h : saveReturn sub s = .ok t) :
    sameRegsBut [.j] s t ∧ sameBeyondRegs s t ∧ t.mem = s.mem ∧
      (sub = 1 → t = s) ∧ (sub ≠ 1 → t.readReg .j = mkword false s.pc.toNat) := by
  unfold saveReturn at h
  split at h
  · cases h; exact ⟨fun _ _ => rfl, ⟨rfl, ⟨rfl, rfl⟩, fun _ => rfl, rfl, rfl⟩, rfl, fun _ => rfl, fun h => absurd ‹_› h⟩
  · obtain ⟨h1, h2, h3, h4⟩ := writeReg_ok h
    exact ⟨h2, h3, h4, fun h => absurd h ‹_›, fun _ => h1⟩

/-- Everything a jump can do when it answers a next state. -/
theorem jumpOp_next_iff {r : Option Reg} {sub : Nat} {f : Byte} {a : Addr} {s u : State} :
    jumpOp r sub f a s = .next u ↔
      ∃ e t taken, effectiveAddress a s = .ok e ∧ saveReturn sub s = .ok t ∧ jumpCondition r sub t = some taken ∧
        u = if taken then (clearOverflow sub t).setPc (BitVec.ofNat 13 e) else clearOverflow sub t := by
  unfold jumpOp raise
  cases he : effectiveAddress a s with
  | error c => simp
  | ok e =>
    simp only [Except.ok.injEq]
    cases ht : saveReturn sub s with
    | error c => simp
    | ok t =>
      simp only [Except.ok.injEq]
      cases hc : jumpCondition r sub t with
      | none =>
        constructor
        · intro h; cases h
        · rintro ⟨_, _, _, rfl, rfl, h, -⟩; rw [hc] at h; cases h
      | some b =>
        constructor
        · intro h
          cases b <;> (cases h; exact ⟨e, t, _, rfl, rfl, hc, rfl⟩)
        · rintro ⟨_, _, b', rfl, rfl, h, rfl⟩
          rw [hc] at h; cases h
          cases b <;> rfl

/-- Everything a jump can do when it faults (60 R372). -/
theorem jumpOp_fault {r : Option Reg} {sub : Nat} {f : Byte} {a : Addr} {s : State} {q : Fault}
    (h : jumpOp r sub f a s = .fault q) :
    (∃ c, (effectiveAddress a s = .error c ∨ saveReturn sub s = .error c) ∧ q = .raised c s) ∨
      ∃ t, saveReturn sub s = .ok t ∧ jumpCondition r sub t = none ∧ q = .raised (.invalidFieldSpec f) t := by
  unfold jumpOp raise at h
  cases he : effectiveAddress a s with
  | error c => rw [he] at h; cases h; exact .inl ⟨c, .inl rfl, rfl⟩
  | ok e =>
    rw [he] at h
    cases ht : saveReturn sub s with
    | error c => rw [ht] at h; cases h; exact .inl ⟨c, .inr rfl, rfl⟩
    | ok t =>
      rw [ht] at h
      simp only at h
      cases hc : jumpCondition r sub t with
      | none => rw [hc] at h; cases h; exact .inr ⟨t, rfl, hc, rfl⟩
      | some b => rw [hc] at h; cases b <;> cases h

theorem jumpOp_ne_refused {r : Option Reg} {sub : Nat} {f : Byte} {a : Addr} {s : State} {x : Refusal} :
    jumpOp r sub f a s ≠ .refused x := by
  unfold jumpOp raise
  split
  · simp
  · split
    · simp
    · split <;> simp

theorem clearOverflow_eq (sub : Nat) (s : State) :
    clearOverflow sub s = s.setOt (if sub = 2 ∨ sub = 3 then false else s.ot) := by
  unfold clearOverflow; split <;> rfl

/-- The sub-modes with a condition are 0..9 (47 R275). -/
theorem jumpCondition_none_iff {r : Option Reg} {sub : Nat} {s : State} : jumpCondition r sub s = none ↔ 10 ≤ sub := by
  constructor
  · intro h
    by_contra hlt
    have : sub ≤ 9 := by omega
    interval_cases sub <;> simp [jumpCondition, condition] at h
  · intro h
    obtain ⟨k, rfl⟩ := Nat.exists_eq_add_of_le h
    have : 10 + k = k + 10 := by omega
    rw [this]; rfl

/-! ### Shift -/

theorem shiftOp_ok_iff {shift : Nat → State → State} {a : Addr} {s t : State} :
    shiftOp shift a s = .ok t ↔ ∃ n, effectiveAddress a s = .ok n ∧ t = shift n s := by
  unfold shiftOp; rw [bind_eq_ok]; simp [eq_comm]

theorem shiftOp_error_iff {shift : Nat → State → State} {a : Addr} {s : State} {c : FaultCause} :
    shiftOp shift a s = .error c ↔ effectiveAddress a s = .error c := by
  unfold shiftOp; rw [bind_eq_error]; simp

theorem pairAX_lt (s : State) : s.pairAX < 2 ^ 60 := by
  have h1 := mag_lt s.regA
  have h2 := mag_lt s.regX
  unfold State.pairAX; omega

/-- Bounding the distance changes no left shift (48 R340). -/
theorem mul_bytePower_mod {k : Nat} (hk : k ≤ 60) (m n : Nat) : m * bytePower n % 2 ^ k = m * 64 ^ n % 2 ^ k := by
  unfold bytePower
  by_cases hn : n ≤ 10
  · rw [Nat.min_eq_left hn]
  · have h : ∀ j, 10 ≤ j → m * 64 ^ j % 2 ^ k = 0 := fun j hj => by
      apply Nat.mod_eq_zero_of_dvd
      have : (64 : Nat) ^ j = 2 ^ (6 * j) := by rw [pow_mul]; rfl
      rw [this]
      exact Dvd.dvd.mul_left (pow_dvd_pow 2 (by omega)) m
    rw [Nat.min_eq_right (by omega), h 10 le_rfl, h n (by omega)]

/-- Bounding the distance changes no right shift of ten bytes or less (48 R340). -/
theorem div_bytePower {m : Nat} (hm : m < 2 ^ 60) (n : Nat) : m / bytePower n = m / 64 ^ n := by
  unfold bytePower
  by_cases hn : n ≤ 10
  · rw [Nat.min_eq_left hn]
  · have h : ∀ j, 10 ≤ j → m / 64 ^ j = 0 := fun j hj => by
      apply Nat.div_eq_of_lt
      calc m < 64 ^ 10 := by simpa using hm
        _ ≤ 64 ^ j := Nat.pow_le_pow_right (by decide) hj
    rw [Nat.min_eq_right (by omega), h 10 le_rfl, h n (by omega)]

/-- `AX <- v` for a ten-byte value: A:X becomes v, both signs stay, nothing else changes. -/
theorem setPairAX_spec (s : State) {v : Nat} (h : v < 2 ^ 60) :
    (s.setPairAX v).pairAX = v ∧ sign (s.setPairAX v).regA = sign s.regA ∧ sign (s.setPairAX v).regX = sign s.regX ∧
      sameRegsBut [.a, .x] s (s.setPairAX v) := by
  have h1 : v / 2 ^ 30 < 2 ^ 30 := by omega
  have h2 : v % 2 ^ 30 < 2 ^ 30 := Nat.mod_lt _ (by decide)
  refine ⟨?_, ?_, ?_, ?_⟩
  · simp only [State.setPairAX, State.pairAX, State.setX_regA, State.setX_regX, State.setA_regA]
    rw [mag_mkword _ h1, mag_mkword _ h2]; omega
  · simp only [State.setPairAX, State.setX_regA, State.setA_regA]; exact sign_mkword _ h1
  · simp only [State.setPairAX, State.setX_regX]; exact sign_mkword _ h2
  · exact fun q hq => readReg_setAX hq ..

/-! ### Move -/

/-- Words outside the destination range are untouched by a copy. -/
theorem copyWords_outside (m : Memory) (src dst n b : Nat) (h : b < dst ∨ dst + n ≤ b) :
    (copyWords m src dst n).read b = m.read b := by
  induction n generalizing m src dst with
  | zero => rfl
  | succ n ih =>
    rw [copyWords, ih _ _ _ (by omega), Memory.read_write_other _ _ (by omega)]

/-- A copy keeps memory in canonical form. -/
theorem copyWords_wf {m : Memory} (h : m.wf = true) (src : Nat) {dst n : Nat} (hd : dst + n ≤ 4000) :
    (copyWords m src dst n).wf = true := by
  induction n generalizing m src dst with
  | zero => exact h
  | succ n ih => exact ih (Memory.wf_write h (by omega) _) _ (by omega)

/-- What a copy leaves in its destination range: the source's words, or, when the destination starts inside the source
range, the leading words over and over (49 R362). -/
theorem copyWords_read {m : Memory} (h : m.wf = true) {src dst n : Nat} (hd : dst + n ≤ 4000) {k : Nat} (hk : k < n) :
    (copyWords m src dst n).read (dst + k) =
      m.read (src + if src < dst ∧ dst < src + n then k % (dst - src) else k) := by
  induction n generalizing m src dst k with
  | zero => omega
  | succ n ih =>
    rw [copyWords]
    cases k with
    | zero =>
      rw [copyWords_outside _ _ _ _ _ (by omega), Nat.add_zero, Memory.read_write_same h]
      congr 1
      split <;> simp
    | succ k =>
      have e : dst + (k + 1) = dst + 1 + k := by omega
      rw [e, ih (Memory.wf_write h (by omega) _) (by omega) (by omega)]
      by_cases hf : src < dst ∧ dst < src + (n + 1)
      · obtain ⟨p, hp⟩ := Nat.exists_eq_add_of_lt hf.1
        have hsub : dst - src = p + 1 := by omega
        have hsub' : dst + 1 - (src + 1) = p + 1 := by omega
        rw [if_pos hf, hsub, hsub']
        have hmod : (if src + 1 < dst + 1 ∧ dst + 1 < src + 1 + n then k % (p + 1) else k) = k % (p + 1) := by
          split
          · rfl
          · rw [Nat.mod_eq_of_lt (by omega)]
        rw [hmod]
        have hlt : k % (p + 1) < p + 1 := Nat.mod_lt _ (by omega)
        by_cases hl : k % (p + 1) = p
        · have h0 : (k + 1) % (p + 1) = 0 := by rw [Nat.add_mod, hl]; simp
          have ha : src + 1 + k % (p + 1) = dst := by omega
          rw [ha, Memory.read_write_same h, h0, Nat.add_zero]
        · have h1 : (k + 1) % (p + 1) = k % (p + 1) + 1 := by
            rw [Nat.add_mod, Nat.mod_eq_of_lt (a := 1) (by omega)]
            exact Nat.mod_eq_of_lt (by omega)
          rw [Memory.read_write_other _ _ (by omega), h1]
          congr 1; omega
      · rw [if_neg hf, if_neg (by omega), Memory.read_write_other _ _ (by omega)]
        congr 1; omega

theorem moveOp_ok_iff {a : Addr} {count : Byte} {s t : State} :
    moveOp a count s = .ok t ↔
      ∃ src, effectiveAddress a s = .ok src ∧
        ((count.toNat = 0 ∧ t = s) ∨
          (0 < count.toNat ∧ src + count.toNat ≤ 4000 ∧ 0 ≤ toInt (s.readReg .i1) ∧
            toInt (s.readReg .i1) + count.toNat ≤ 4000 ∧
            (s.setMem (copyWords s.mem src (toInt (s.readReg .i1)).toNat count.toNat)).writeReg .i1
              (mkword false ((toInt (s.readReg .i1)).toNat + count.toNat)) = .ok t)) := by
  unfold moveOp
  rw [bind_eq_ok]
  refine exists_congr fun src => and_congr_right fun _ => ?_
  simp only
  split
  · rename_i h; simp [h]; exact eq_comm
  · rename_i h
    split
    · simp [h]; omega
    · simp only [h, false_and, false_or]
      constructor
      · intro ht; exact ⟨by omega, by omega, by omega, by omega, ht⟩
      · rintro ⟨-, -, -, -, ht⟩; exact ht

theorem moveOp_error_iff {a : Addr} {count : Byte} {s : State} {c : FaultCause} :
    moveOp a count s = .error c ↔
      effectiveAddress a s = .error c ∨
        ∃ src, effectiveAddress a s = .ok src ∧ 0 < count.toNat ∧
          (4000 < src + count.toNat ∨ toInt (s.readReg .i1) < 0 ∨ 4000 < toInt (s.readReg .i1) + count.toNat) ∧
          c = .invalidAddress (.move src (toInt (s.readReg .i1)) count.toNat) := by
  unfold moveOp
  rw [bind_eq_error]
  refine or_congr_right (exists_congr fun src => and_congr_right fun _ => ?_)
  simp only
  split
  · rename_i h; simp [h]
  · rename_i h
    split
    · rename_i hb
      simp only [Except.error.injEq]
      constructor
      · rintro rfl; exact ⟨by omega, hb, rfl⟩
      · rintro ⟨-, -, rfl⟩; rfl
    · rename_i hb
      constructor
      · intro hw
        obtain ⟨-, h2, -⟩ := writeReg_error_iff.mp hw
        rw [mag_mkword _ (by omega)] at h2
        omega
      · rintro ⟨-, hb', -⟩; exact absurd hb' hb

end Sys2Proof.Machine
end

