-- ==== Sys2Proof/Laws/Exec.lean ====
section
/-! SUPPORT. What `exec` runs: one lemma per family, from an instruction's row in the family's list to its handler, and
the case split over all instructions, so that a proof about every instruction has ten cases. -/

namespace Sys2Proof.Machine

/-- The sub-mode a jump on a three-valued state has, by the states it is taken on (47 R273). -/
def subMode : List Indicator → Nat
  | [.less] => 4
  | [.equal] => 5
  | [.greater] => 6
  | [.equal, .greater] => 7
  | [.less, .greater] => 8
  | _ => 9

/-- The function of a shift instruction (48 R340). -/
def shiftOf : Instr → Nat → State → State
  | .sla _ => shiftLeftA
  | .sra _ => shiftRightA
  | .slax _ => shiftLeftAX
  | .srax _ => shiftRightAX
  | .slc _ => rotateLeftAX
  | _ => rotateRightAX

theorem forall_loads {a : Addr} {f : Byte} {s : State} :
    ∀ x ∈ loads a f, exec x.1 s = conclude s (loadOp x.2.1 x.2.2 a f s) := by
  unfold loads
  repeat' refine List.forall_mem_cons.mpr ⟨rfl, ?_⟩
  exact List.forall_mem_nil _

theorem exec_load {i : Instr} {r : Reg} {n : Bool} {a : Addr} {f : Byte} (h : (i, r, n) ∈ loads a f) (s : State) :
    exec i s = conclude s (loadOp r n a f s) := forall_loads (i, r, n) h

theorem forall_stores {a : Addr} {f : Byte} {s : State} :
    ∀ x ∈ stores a f, exec x.1 s = conclude s (storeOp (sourceWord s x.2) a f s) := by
  unfold stores
  repeat' refine List.forall_mem_cons.mpr ⟨rfl, ?_⟩
  exact List.forall_mem_nil _

theorem exec_store {i : Instr} {r : Option Reg} {a : Addr} {f : Byte} (h : (i, r) ∈ stores a f) (s : State) :
    exec i s = conclude s (storeOp (sourceWord s r) a f s) := forall_stores (i, r) h

theorem forall_enters {a : Addr} {s : State} :
    ∀ x ∈ enters a, exec x.1 s = conclude s (addrXferOp x.2.1 x.2.2 false a s) := by
  unfold enters
  repeat' refine List.forall_mem_cons.mpr ⟨rfl, ?_⟩
  exact List.forall_mem_nil _

theorem exec_enter {i : Instr} {r : Reg} {n : Bool} {a : Addr} (h : (i, r, n) ∈ enters a) (s : State) :
    exec i s = conclude s (addrXferOp r n false a s) := forall_enters (i, r, n) h

theorem forall_increases {a : Addr} {s : State} :
    ∀ x ∈ increases a, exec x.1 s = conclude s (addrXferOp x.2.1 x.2.2 true a s) := by
  unfold increases
  repeat' refine List.forall_mem_cons.mpr ⟨rfl, ?_⟩
  exact List.forall_mem_nil _

theorem exec_increase {i : Instr} {r : Reg} {n : Bool} {a : Addr} (h : (i, r, n) ∈ increases a) (s : State) :
    exec i s = conclude s (addrXferOp r n true a s) := forall_increases (i, r, n) h

theorem forall_compares {a : Addr} {f : Byte} {s : State} :
    ∀ x ∈ compares a f, exec x.1 s = conclude s (compareOp x.2 a f s) := by
  unfold compares
  repeat' refine List.forall_mem_cons.mpr ⟨rfl, ?_⟩
  exact List.forall_mem_nil _

theorem exec_compare {i : Instr} {r : Reg} {a : Addr} {f : Byte} (h : (i, r) ∈ compares a f) (s : State) :
    exec i s = conclude s (compareOp r a f s) := forall_compares (i, r) h

theorem forall_indicatorJumps {a : Addr} {s : State} :
    ∀ x ∈ indicatorJumps a, exec x.1 s = jumpOp none (subMode x.2) (BitVec.ofNat 6 (subMode x.2)) a s := by
  unfold indicatorJumps
  repeat' refine List.forall_mem_cons.mpr ⟨rfl, ?_⟩
  exact List.forall_mem_nil _

theorem exec_indicatorJump {i : Instr} {ts : List Indicator} {a : Addr} (h : (i, ts) ∈ indicatorJumps a) (s : State) :
    exec i s = jumpOp none (subMode ts) (BitVec.ofNat 6 (subMode ts)) a s := forall_indicatorJumps (i, ts) h

theorem forall_registerJumps {a : Addr} {s : State} :
    ∀ x ∈ registerJumps a,
      exec x.1 s = jumpOp (some x.2.1) (subMode x.2.2) (BitVec.ofNat 6 (subMode x.2.2 - 4)) a s := by
  unfold registerJumps sixJumps
  simp only [List.cons_append, List.nil_append]
  repeat' refine List.forall_mem_cons.mpr ⟨rfl, ?_⟩
  exact List.forall_mem_nil _

theorem exec_registerJump {i : Instr} {r : Reg} {ts : List Indicator} {a : Addr}
    (h : (i, r, ts) ∈ registerJumps a) (s : State) :
    exec i s = jumpOp (some r) (subMode ts) (BitVec.ofNat 6 (subMode ts - 4)) a s := forall_registerJumps (i, r, ts) h

theorem exec_shift {i : Instr} {a : Addr} (h : i ∈ shifts a) (s : State) :
    exec i s = conclude s (shiftOp (shiftOf i) a s) := by
  have all : ∀ i ∈ shifts a, exec i s = conclude s (shiftOp (shiftOf i) a s) := by
    unfold shifts
    repeat' refine List.forall_mem_cons.mpr ⟨rfl, ?_⟩
    exact List.forall_mem_nil _
  exact all i h

theorem forall_unimplementeds {a : Addr} {f : Byte} {s : State} :
    ∀ x ∈ unimplementeds a f, exec x.1 s = raise (.unknownOpcode x.2.1 x.2.2) s := by
  unfold unimplementeds
  repeat' refine List.forall_mem_cons.mpr ⟨rfl, ?_⟩
  exact List.forall_mem_nil _

/-- Every instruction with the state it runs in and its outcome: its family, its row there, its handler. -/
inductive ExecShape (s : State) : Instr → Outcome → Prop
  | load {i r n a f} (h : (i, r, n) ∈ loads a f) : ExecShape s i (conclude s (loadOp r n a f s))
  | store {i r a f} (h : (i, r) ∈ stores a f) : ExecShape s i (conclude s (storeOp (sourceWord s r) a f s))
  | add {a f} : ExecShape s (.add a f) (conclude s (addOp false a f s))
  | sub {a f} : ExecShape s (.sub a f) (conclude s (addOp true a f s))
  | mul {a f} : ExecShape s (.mul a f) (conclude s (mulOp a f s))
  | div {a f} : ExecShape s (.div a f) (conclude s (divOp a f s))
  | enter {i r n a} (h : (i, r, n) ∈ enters a) : ExecShape s i (conclude s (addrXferOp r n false a s))
  | increase {i r n a} (h : (i, r, n) ∈ increases a) : ExecShape s i (conclude s (addrXferOp r n true a s))
  | compare {i r a f} (h : (i, r) ∈ compares a f) : ExecShape s i (conclude s (compareOp r a f s))
  | jump {i a} (r : Option Reg) (sub : Nat) (f : Byte) (h : i ∈ jumps a) (hsub : sub ≤ 9)
      (h1 : sub = 1 ↔ i = .jsj a) (h23 : sub = 2 ∨ sub = 3 ↔ i = .jov a ∨ i = .jnov a) :
      ExecShape s i (jumpOp r sub f a s)
  | shift {i a} (h : i ∈ shifts a) : ExecShape s i (conclude s (shiftOp (shiftOf i) a s))
  | move {a c} : ExecShape s (.move a c) (conclude s (moveOp a c s))
  | unimplemented {i a f c g} (h : (i, c, g) ∈ unimplementeds a f) : ExecShape s i (raise (.unknownOpcode c g) s)

theorem subMode_range (ts : List Indicator) : 4 ≤ subMode ts ∧ subMode ts ≤ 9 := by
  unfold subMode; split <;> decide

theorem indicatorJumps_plain {a : Addr} :
    ∀ x ∈ indicatorJumps a, (4 ≤ subMode x.2 ∧ subMode x.2 ≤ 9) ∧ x.1 ≠ .jsj a ∧ x.1 ≠ .jov a ∧ x.1 ≠ .jnov a := by
  unfold indicatorJumps
  repeat' refine List.forall_mem_cons.mpr ⟨⟨subMode_range _, nofun, nofun, nofun⟩, ?_⟩
  exact List.forall_mem_nil _

theorem registerJumps_plain {a : Addr} :
    ∀ x ∈ registerJumps a,
      (4 ≤ subMode x.2.2 ∧ subMode x.2.2 ≤ 9) ∧ x.1 ≠ .jsj a ∧ x.1 ≠ .jov a ∧ x.1 ≠ .jnov a := by
  unfold registerJumps sixJumps
  simp only [List.cons_append, List.nil_append]
  repeat' refine List.forall_mem_cons.mpr ⟨⟨subMode_range _, nofun, nofun, nofun⟩, ?_⟩
  exact List.forall_mem_nil _

theorem shape_load {i : Instr} (s : State) {r : Reg} {n : Bool} {a : Addr} {f : Byte} (h : (i, r, n) ∈ loads a f) :
    ExecShape s i (exec i s) := exec_load h s ▸ .load h

theorem shape_store {i : Instr} (s : State) {r : Option Reg} {a : Addr} {f : Byte} (h : (i, r) ∈ stores a f) :
    ExecShape s i (exec i s) := exec_store h s ▸ .store h

theorem shape_enter {i : Instr} (s : State) {r : Reg} {n : Bool} {a : Addr} (h : (i, r, n) ∈ enters a) :
    ExecShape s i (exec i s) := exec_enter h s ▸ .enter h

theorem shape_increase {i : Instr} (s : State) {r : Reg} {n : Bool} {a : Addr} (h : (i, r, n) ∈ increases a) :
    ExecShape s i (exec i s) := exec_increase h s ▸ .increase h

theorem shape_compare {i : Instr} (s : State) {r : Reg} {a : Addr} {f : Byte} (h : (i, r) ∈ compares a f) :
    ExecShape s i (exec i s) := exec_compare h s ▸ .compare h

theorem shape_shift {i : Instr} (s : State) {a : Addr} (h : i ∈ shifts a) : ExecShape s i (exec i s) :=
  exec_shift h s ▸ .shift h

theorem shape_unimplemented {i : Instr} (s : State) {c g : Byte} {a : Addr} {f : Byte}
    (h : (i, c, g) ∈ unimplementeds a f) : ExecShape s i (exec i s) :=
  forall_unimplementeds (i, c, g) h ▸ .unimplemented h

/-- A jump runs the jump handler, in every state on the same one of the ten sub-modes; sub-mode 1 is JSJ's, 2 and 3 are
JOV's and JNOV's. -/
theorem exec_jump {i : Instr} {a : Addr} (h : i ∈ jumps a) :
    ∃ r sub f, sub ≤ 9 ∧ (sub = 1 ↔ i = .jsj a) ∧ (sub = 2 ∨ sub = 3 ↔ i = .jov a ∨ i = .jnov a) ∧
      ∀ s, exec i s = jumpOp r sub f a s := by
  rcases List.mem_append.mp h with h | h
  · rcases List.mem_append.mp h with h | h
    · have all : ∀ i ∈ plainJumps a, ∃ r sub f, sub ≤ 9 ∧ (sub = 1 ↔ i = .jsj a) ∧
          (sub = 2 ∨ sub = 3 ↔ i = .jov a ∨ i = .jnov a) ∧ ∀ s, exec i s = jumpOp r sub f a s := by
        unfold plainJumps
        refine List.forall_mem_cons.mpr ⟨⟨none, 0, 0, by decide, by simp, by simp, fun _ => rfl⟩, ?_⟩
        refine List.forall_mem_cons.mpr ⟨⟨none, 1, 1, by decide, by simp, by simp, fun _ => rfl⟩, ?_⟩
        refine List.forall_mem_cons.mpr ⟨⟨none, 2, 2, by decide, by simp, by simp, fun _ => rfl⟩, ?_⟩
        refine List.forall_mem_cons.mpr ⟨⟨none, 3, 3, by decide, by simp, by simp, fun _ => rfl⟩, ?_⟩
        exact List.forall_mem_nil _
      exact all i h
    · obtain ⟨⟨j, ts⟩, hx, rfl⟩ := List.mem_map.mp h
      obtain ⟨h49, hj, ho, hn⟩ := indicatorJumps_plain (j, ts) hx
      simp only at h49 hj ho hn
      exact ⟨_, _, _, h49.2, ⟨fun e => by omega, fun e => absurd e hj⟩,
        ⟨fun e => by omega, fun e => absurd e (by simp [ho, hn])⟩, exec_indicatorJump hx⟩
  · obtain ⟨⟨j, r, ts⟩, hx, rfl⟩ := List.mem_map.mp h
    obtain ⟨h49, hj, ho, hn⟩ := registerJumps_plain (j, r, ts) hx
    simp only at h49 hj ho hn
    exact ⟨_, _, _, h49.2, ⟨fun e => by omega, fun e => absurd e hj⟩,
      ⟨fun e => by omega, fun e => absurd e (by simp [ho, hn])⟩, exec_registerJump hx⟩

theorem shape_jump {i : Instr} (s : State) {a : Addr} (h : i ∈ jumps a) : ExecShape s i (exec i s) := by
  obtain ⟨r, sub, f, h9, h1, h23, he⟩ := exec_jump h
  rw [he s]
  exact .jump r sub f h h9 h1 h23

theorem plainJumps_jumps {i : Instr} {a : Addr} (h : i ∈ plainJumps a) : i ∈ jumps a :=
  List.mem_append_left _ (List.mem_append_left _ h)

/-- The case split: every instruction runs the handler of its family. -/
theorem exec_shape (i : Instr) (s : State) : ExecShape s i (exec i s) := by
  cases i
  case add a f => exact .add
  case sub a f => exact .sub
  case mul a f => exact .mul
  case div a f => exact .div
  case sla a => exact shape_shift s (a := a) (.head _)
  case sra a => exact shape_shift s (a := a) (.tail _ (.head _))
  case slax a => exact shape_shift s (a := a) (.tail _ (.tail _ (.head _)))
  case srax a => exact shape_shift s (a := a) (.tail _ (.tail _ (.tail _ (.head _))))
  case slc a => exact shape_shift s (a := a) (.tail _ (.tail _ (.tail _ (.tail _ (.head _)))))
  case src a => exact shape_shift s (a := a) (.tail _ (.tail _ (.tail _ (.tail _ (.tail _ (.head _))))))
  case move a f => exact .move
  case lda a f => exact shape_load s (a := a) (f := f) (.head _)
  case ld1 a f => exact shape_load s (a := a) (f := f) (.tail _ (.head _))
  case ld2 a f => exact shape_load s (a := a) (f := f) (.tail _ (.tail _ (.head _)))
  case ld3 a f => exact shape_load s (a := a) (f := f) (.tail _ (.tail _ (.tail _ (.head _))))
  case ld4 a f => exact shape_load s (a := a) (f := f) (.tail _ (.tail _ (.tail _ (.tail _ (.head _)))))
  case ld5 a f => exact shape_load s (a := a) (f := f) (.tail _ (.tail _ (.tail _ (.tail _ (.tail _ (.head _))))))
  case ld6 a f => exact shape_load s (a := a) (f := f) (.tail _ (.tail _ (.tail _ (.tail _ (.tail _ (.tail _ (.head _)))))))
  case ldx a f => exact shape_load s (a := a) (f := f) (.tail _ (.tail _ (.tail _ (.tail _ (.tail _ (.tail _ (.tail _ (.head _))))))))
  case ldan a f => exact shape_load s (a := a) (f := f) (.tail _ (.tail _ (.tail _ (.tail _ (.tail _ (.tail _ (.tail _ (.tail _ (.head _)))))))))
  case ld1n a f => exact shape_load s (a := a) (f := f) (.tail _ (.tail _ (.tail _ (.tail _ (.tail _ (.tail _ (.tail _ (.tail _ (.tail _ (.head _))))))))))
  case ld2n a f => exact shape_load s (a := a) (f := f) (.tail _ (.tail _ (.tail _ (.tail _ (.tail _ (.tail _ (.tail _ (.tail _ (.tail _ (.tail _ (.head _)))))))))))
  case ld3n a f => exact shape_load s (a := a) (f := f) (.tail _ (.tail _ (.tail _ (.tail _ (.tail _ (.tail _ (.tail _ (.tail _ (.tail _ (.tail _ (.tail _ (.head _))))))))))))
  case ld4n a f => exact shape_load s (a := a) (f := f) (.tail _ (.tail _ (.tail _ (.tail _ (.tail _ (.tail _ (.tail _ (.tail _ (.tail _ (.tail _ (.tail _ (.tail _ (.head _)))))))))))))
  case ld5n a f => exact shape_load s (a := a) (f := f) (.tail _ (.tail _ (.tail _ (.tail _ (.tail _ (.tail _ (.tail _ (.tail _ (.tail _ (.tail _ (.tail _ (.tail _ (.tail _ (.head _))))))))))))))
  case ld6n a f => exact shape_load s (a := a) (f := f) (.tail _ (.tail _ (.tail _ (.tail _ (.tail _ (.tail _ (.tail _ (.tail _ (.tail _ (.tail _ (.tail _ (.tail _ (.tail _ (.tail _ (.head _)))))))))))))))
  case ldxn a f => exact shape_load s (a := a) (f := f) (.tail _ (.tail _ (.tail _ (.tail _ (.tail _ (.tail _ (.tail _ (.tail _ (.tail _ (.tail _ (.tail _ (.tail _ (.tail _ (.tail _ (.tail _ (.head _))))))))))))))))
  case sta a f => exact shape_store s (a := a) (f := f) (.head _)
  case st1 a f => exact shape_store s (a := a) (f := f) (.tail _ (.head _))
  case st2 a f => exact shape_store s (a := a) (f := f) (.tail _ (.tail _ (.head _)))
  case st3 a f => exact shape_store s (a := a) (f := f) (.tail _ (.tail _ (.tail _ (.head _))))
  case st4 a f => exact shape_store s (a := a) (f := f) (.tail _ (.tail _ (.tail _ (.tail _ (.head _)))))
  case st5 a f => exact shape_store s (a := a) (f := f) (.tail _ (.tail _ (.tail _ (.tail _ (.tail _ (.head _))))))
  case st6 a f => exact shape_store s (a := a) (f := f) (.tail _ (.tail _ (.tail _ (.tail _ (.tail _ (.tail _ (.head _)))))))
  case stx a f => exact shape_store s (a := a) (f := f) (.tail _ (.tail _ (.tail _ (.tail _ (.tail _ (.tail _ (.tail _ (.head _))))))))
  case stj a f => exact shape_store s (a := a) (f := f) (.tail _ (.tail _ (.tail _ (.tail _ (.tail _ (.tail _ (.tail _ (.tail _ (.head _)))))))))
  case stz a f => exact shape_store s (a := a) (f := f) (.tail _ (.tail _ (.tail _ (.tail _ (.tail _ (.tail _ (.tail _ (.tail _ (.tail _ (.head _))))))))))
  case jmp a => exact shape_jump s (plainJumps_jumps (.head _))
  case jsj a => exact shape_jump s (plainJumps_jumps (.tail _ (.head _)))
  case jov a => exact shape_jump s (plainJumps_jumps (.tail _ (.tail _ (.head _))))
  case jnov a => exact shape_jump s (plainJumps_jumps (.tail _ (.tail _ (.tail _ (.head _)))))
  case jl a => exact shape_jump s (a := a) (List.mem_append_left _ (List.mem_append_right _ (.head _)))
  case je a => exact shape_jump s (a := a) (List.mem_append_left _ (List.mem_append_right _ (.tail _ (.head _))))
  case jg a => exact shape_jump s (a := a) (List.mem_append_left _ (List.mem_append_right _ (.tail _ (.tail _ (.head _)))))
  case jge a => exact shape_jump s (a := a) (List.mem_append_left _ (List.mem_append_right _ (.tail _ (.tail _ (.tail _ (.head _))))))
  case jne a => exact shape_jump s (a := a) (List.mem_append_left _ (List.mem_append_right _ (.tail _ (.tail _ (.tail _ (.tail _ (.head _)))))))
  case jle a => exact shape_jump s (a := a) (List.mem_append_left _ (List.mem_append_right _ (.tail _ (.tail _ (.tail _ (.tail _ (.tail _ (.head _))))))))
  case jan a => exact shape_jump s (a := a) (List.mem_append_right _ (.head _))
  case jaz a => exact shape_jump s (a := a) (List.mem_append_right _ (.tail _ (.head _)))
  case jap a => exact shape_jump s (a := a) (List.mem_append_right _ (.tail _ (.tail _ (.head _))))
  case jann a => exact shape_jump s (a := a) (List.mem_append_right _ (.tail _ (.tail _ (.tail _ (.head _)))))
  case janz a => exact shape_jump s (a := a) (List.mem_append_right _ (.tail _ (.tail _ (.tail _ (.tail _ (.head _))))))
  case janp a => exact shape_jump s (a := a) (List.mem_append_right _ (.tail _ (.tail _ (.tail _ (.tail _ (.tail _ (.head _)))))))
  case j1n a => exact shape_jump s (a := a) (List.mem_append_right _ (.tail _ (.tail _ (.tail _ (.tail _ (.tail _ (.tail _ (.head _))))))))
  case j1z a => exact shape_jump s (a := a) (List.mem_append_right _ (.tail _ (.tail _ (.tail _ (.tail _ (.tail _ (.tail _ (.tail _ (.head _)))))))))
  case j1p a => exact shape_jump s (a := a) (List.mem_append_right _ (.tail _ (.tail _ (.tail _ (.tail _ (.tail _ (.tail _ (.tail _ (.tail _ (.head _))))))))))
  case j1nn a => exact shape_jump s (a := a) (List.mem_append_right _ (.tail _ (.tail _ (.tail _ (.tail _ (.tail _ (.tail _ (.tail _ (.tail _ (.tail _ (.head _)))))))))))
  case j1nz a => exact shape_jump s (a := a) (List.mem_append_right _ (.tail _ (.tail _ (.tail _ (.tail _ (.tail _ (.tail _ (.tail _ (.tail _ (.tail _ (.tail _ (.head _))))))))))))
  case j1np a => exact shape_jump s (a := a) (List.mem_append_right _ (.tail _ (.tail _ (.tail _ (.tail _ (.tail _ (.tail _ (.tail _ (.tail _ (.tail _ (.tail _ (.tail _ (.head _)))))))))))))
  case j2n a => exact shape_jump s (a := a) (List.mem_append_right _ (.tail _ (.tail _ (.tail _ (.tail _ (.tail _ (.tail _ (.tail _ (.tail _ (.tail _ (.tail _ (.tail _ (.tail _ (.head _))))))))))))))
  case j2z a => exact shape_jump s (a := a) (List.mem_append_right _ (.tail _ (.tail _ (.tail _ (.tail _ (.tail _ (.tail _ (.tail _ (.tail _ (.tail _ (.tail _ (.tail _ (.tail _ (.tail _ (.head _)))))))))))))))
  case j2p a => exact shape_jump s (a := a) (List.mem_append_right _ (.tail _ (.tail _ (.tail _ (.tail _ (.tail _ (.tail _ (.tail _ (.tail _ (.tail _ (.tail _ (.tail _ (.tail _ (.tail _ (.tail _ (.head _))))))))))))))))
  case j2nn a => exact shape_jump s (a := a) (List.mem_append_right _ (.tail _ (.tail _ (.tail _ (.tail _ (.tail _ (.tail _ (.tail _ (.tail _ (.tail _ (.tail _ (.tail _ (.tail _ (.tail _ (.tail _ (.tail _ (.head _)))))))))))))))))
  case j2nz a => exact shape_jump s (a := a) (List.mem_append_right _ (.tail _ (.tail _ (.tail _ (.tail _ (.tail _ (.tail _ (.tail _ (.tail _ (.tail _ (.tail _ (.tail _ (.tail _ (.tail _ (.tail _ (.tail _ (.tail _ (.head _))))))))))))))))))
  case j2np a => exact shape_jump s (a := a) (List.mem_append_right _ (.tail _ (.tail _ (.tail _ (.tail _ (.tail _ (.tail _ (.tail _ (.tail _ (.tail _ (.tail _ (.tail _ (.tail _ (.tail _ (.tail _ (.tail _ (.tail _ (.tail _ (.head _)))))))))))))))))))
  case j3n a => exact shape_jump s (a := a) (List.mem_append_right _ (.tail _ (.tail _ (.tail _ (.tail _ (.tail _ (.tail _ (.tail _ (.tail _ (.tail _ (.tail _ (.tail _ (.tail _ (.tail _ (.tail _ (.tail _ (.tail _ (.tail _ (.tail _ (.head _))))))))))))))))))))
  case j3z a => exact shape_jump s (a := a) (List.mem_append_right _ (.tail _ (.tail _ (.tail _ (.tail _ (.tail _ (.tail _ (.tail _ (.tail _ (.tail _ (.tail _ (.tail _ (.tail _ (.tail _ (.tail _ (.tail _ (.tail _ (.tail _ (.tail _ (.tail _ (.head _)))))))))))))))))))))
  case j3p a => exact shape_jump s (a := a) (List.mem_append_right _ (.tail _ (.tail _ (.tail _ (.tail _ (.tail _ (.tail _ (.tail _ (.tail _ (.tail _ (.tail _ (.tail _ (.tail _ (.tail _ (.tail _ (.tail _ (.tail _ (.tail _ (.tail _ (.tail _ (.tail _ (.head _))))))))))))))))))))))
  case j3nn a => exact shape_jump s (a := a) (List.mem_append_right _ (.tail _ (.tail _ (.tail _ (.tail _ (.tail _ (.tail _ (.tail _ (.tail _ (.tail _ (.tail _ (.tail _ (.tail _ (.tail _ (.tail _ (.tail _ (.tail _ (.tail _ (.tail _ (.tail _ (.tail _ (.tail _ (.head _)))))))))))))))))))))))
  case j3nz a => exact shape_jump s (a := a) (List.mem_append_right _ (.tail _ (.tail _ (.tail _ (.tail _ (.tail _ (.tail _ (.tail _ (.tail _ (.tail _ (.tail _ (.tail _ (.tail _ (.tail _ (.tail _ (.tail _ (.tail _ (.tail _ (.tail _ (.tail _ (.tail _ (.tail _ (.tail _ (.head _))))))))))))))))))))))))
  case j3np a => exact shape_jump s (a := a) (List.mem_append_right _ (.tail _ (.tail _ (.tail _ (.tail _ (.tail _ (.tail _ (.tail _ (.tail _ (.tail _ (.tail _ (.tail _ (.tail _ (.tail _ (.tail _ (.tail _ (.tail _ (.tail _ (.tail _ (.tail _ (.tail _ (.tail _ (.tail _ (.tail _ (.head _)))))))))))))))))))))))))
  case j4n a => exact shape_jump s (a := a) (List.mem_append_right _ (.tail _ (.tail _ (.tail _ (.tail _ (.tail _ (.tail _ (.tail _ (.tail _ (.tail _ (.tail _ (.tail _ (.tail _ (.tail _ (.tail _ (.tail _ (.tail _ (.tail _ (.tail _ (.tail _ (.tail _ (.tail _ (.tail _ (.tail _ (.tail _ (.head _))))))))))))))))))))))))))
  case j4z a => exact shape_jump s (a := a) (List.mem_append_right _ (.tail _ (.tail _ (.tail _ (.tail _ (.tail _ (.tail _ (.tail _ (.tail _ (.tail _ (.tail _ (.tail _ (.tail _ (.tail _ (.tail _ (.tail _ (.tail _ (.tail _ (.tail _ (.tail _ (.tail _ (.tail _ (.tail _ (.tail _ (.tail _ (.tail _ (.head _)))))))))))))))))))))))))))
  case j4p a => exact shape_jump s (a := a) (List.mem_append_right _ (.tail _ (.tail _ (.tail _ (.tail _ (.tail _ (.tail _ (.tail _ (.tail _ (.tail _ (.tail _ (.tail _ (.tail _ (.tail _ (.tail _ (.tail _ (.tail _ (.tail _ (.tail _ (.tail _ (.tail _ (.tail _ (.tail _ (.tail _ (.tail _ (.tail _ (.tail _ (.head _))))))))))))))))))))))))))))
  case j4nn a => exact shape_jump s (a := a) (List.mem_append_right _ (.tail _ (.tail _ (.tail _ (.tail _ (.tail _ (.tail _ (.tail _ (.tail _ (.tail _ (.tail _ (.tail _ (.tail _ (.tail _ (.tail _ (.tail _ (.tail _ (.tail _ (.tail _ (.tail _ (.tail _ (.tail _ (.tail _ (.tail _ (.tail _ (.tail _ (.tail _ (.tail _ (.head _)))))))))))))))))))))))))))))
  case j4nz a => exact shape_jump s (a := a) (List.mem_append_right _ (.tail _ (.tail _ (.tail _ (.tail _ (.tail _ (.tail _ (.tail _ (.tail _ (.tail _ (.tail _ (.tail _ (.tail _ (.tail _ (.tail _ (.tail _ (.tail _ (.tail _ (.tail _ (.tail _ (.tail _ (.tail _ (.tail _ (.tail _ (.tail _ (.tail _ (.tail _ (.tail _ (.tail _ (.head _))))))))))))))))))))))))))))))
  case j4np a => exact shape_jump s (a := a) (List.mem_append_right _ (.tail _ (.tail _ (.tail _ (.tail _ (.tail _ (.tail _ (.tail _ (.tail _ (.tail _ (.tail _ (.tail _ (.tail _ (.tail _ (.tail _ (.tail _ (.tail _ (.tail _ (.tail _ (.tail _ (.tail _ (.tail _ (.tail _ (.tail _ (.tail _ (.tail _ (.tail _ (.tail _ (.tail _ (.tail _ (.head _)))))))))))))))))))))))))))))))
  case j5n a => exact shape_jump s (a := a) (List.mem_append_right _ (.tail _ (.tail _ (.tail _ (.tail _ (.tail _ (.tail _ (.tail _ (.tail _ (.tail _ (.tail _ (.tail _ (.tail _ (.tail _ (.tail _ (.tail _ (.tail _ (.tail _ (.tail _ (.tail _ (.tail _ (.tail _ (.tail _ (.tail _ (.tail _ (.tail _ (.tail _ (.tail _ (.tail _ (.tail _ (.tail _ (.head _))))))))))))))))))))))))))))))))
  case j5z a => exact shape_jump s (a := a) (List.mem_append_right _ (.tail _ (.tail _ (.tail _ (.tail _ (.tail _ (.tail _ (.tail _ (.tail _ (.tail _ (.tail _ (.tail _ (.tail _ (.tail _ (.tail _ (.tail _ (.tail _ (.tail _ (.tail _ (.tail _ (.tail _ (.tail _ (.tail _ (.tail _ (.tail _ (.tail _ (.tail _ (.tail _ (.tail _ (.tail _ (.tail _ (.tail _ (.head _)))))))))))))))))))))))))))))))))
  case j5p a => exact shape_jump s (a := a) (List.mem_append_right _ (.tail _ (.tail _ (.tail _ (.tail _ (.tail _ (.tail _ (.tail _ (.tail _ (.tail _ (.tail _ (.tail _ (.tail _ (.tail _ (.tail _ (.tail _ (.tail _ (.tail _ (.tail _ (.tail _ (.tail _ (.tail _ (.tail _ (.tail _ (.tail _ (.tail _ (.tail _ (.tail _ (.tail _ (.tail _ (.tail _ (.tail _ (.tail _ (.head _))))))))))))))))))))))))))))))))))
  case j5nn a => exact shape_jump s (a := a) (List.mem_append_right _ (.tail _ (.tail _ (.tail _ (.tail _ (.tail _ (.tail _ (.tail _ (.tail _ (.tail _ (.tail _ (.tail _ (.tail _ (.tail _ (.tail _ (.tail _ (.tail _ (.tail _ (.tail _ (.tail _ (.tail _ (.tail _ (.tail _ (.tail _ (.tail _ (.tail _ (.tail _ (.tail _ (.tail _ (.tail _ (.tail _ (.tail _ (.tail _ (.tail _ (.head _)))))))))))))))))))))))))))))))))))
  case j5nz a => exact shape_jump s (a := a) (List.mem_append_right _ (.tail _ (.tail _ (.tail _ (.tail _ (.tail _ (.tail _ (.tail _ (.tail _ (.tail _ (.tail _ (.tail _ (.tail _ (.tail _ (.tail _ (.tail _ (.tail _ (.tail _ (.tail _ (.tail _ (.tail _ (.tail _ (.tail _ (.tail _ (.tail _ (.tail _ (.tail _ (.tail _ (.tail _ (.tail _ (.tail _ (.tail _ (.tail _ (.tail _ (.tail _ (.head _))))))))))))))))))))))))))))))))))))
  case j5np a => exact shape_jump s (a := a) (List.mem_append_right _ (.tail _ (.tail _ (.tail _ (.tail _ (.tail _ (.tail _ (.tail _ (.tail _ (.tail _ (.tail _ (.tail _ (.tail _ (.tail _ (.tail _ (.tail _ (.tail _ (.tail _ (.tail _ (.tail _ (.tail _ (.tail _ (.tail _ (.tail _ (.tail _ (.tail _ (.tail _ (.tail _ (.tail _ (.tail _ (.tail _ (.tail _ (.tail _ (.tail _ (.tail _ (.tail _ (.head _)))))))))))))))))))))))))))))))))))))
  case j6n a => exact shape_jump s (a := a) (List.mem_append_right _ (.tail _ (.tail _ (.tail _ (.tail _ (.tail _ (.tail _ (.tail _ (.tail _ (.tail _ (.tail _ (.tail _ (.tail _ (.tail _ (.tail _ (.tail _ (.tail _ (.tail _ (.tail _ (.tail _ (.tail _ (.tail _ (.tail _ (.tail _ (.tail _ (.tail _ (.tail _ (.tail _ (.tail _ (.tail _ (.tail _ (.tail _ (.tail _ (.tail _ (.tail _ (.tail _ (.tail _ (.head _))))))))))))))))))))))))))))))))))))))
  case j6z a => exact shape_jump s (a := a) (List.mem_append_right _ (.tail _ (.tail _ (.tail _ (.tail _ (.tail _ (.tail _ (.tail _ (.tail _ (.tail _ (.tail _ (.tail _ (.tail _ (.tail _ (.tail _ (.tail _ (.tail _ (.tail _ (.tail _ (.tail _ (.tail _ (.tail _ (.tail _ (.tail _ (.tail _ (.tail _ (.tail _ (.tail _ (.tail _ (.tail _ (.tail _ (.tail _ (.tail _ (.tail _ (.tail _ (.tail _ (.tail _ (.tail _ (.head _)))))))))))))))))))))))))))))))))))))))
  case j6p a => exact shape_jump s (a := a) (List.mem_append_right _ (.tail _ (.tail _ (.tail _ (.tail _ (.tail _ (.tail _ (.tail _ (.tail _ (.tail _ (.tail _ (.tail _ (.tail _ (.tail _ (.tail _ (.tail _ (.tail _ (.tail _ (.tail _ (.tail _ (.tail _ (.tail _ (.tail _ (.tail _ (.tail _ (.tail _ (.tail _ (.tail _ (.tail _ (.tail _ (.tail _ (.tail _ (.tail _ (.tail _ (.tail _ (.tail _ (.tail _ (.tail _ (.tail _ (.head _))))))))))))))))))))))))))))))))))))))))
  case j6nn a => exact shape_jump s (a := a) (List.mem_append_right _ (.tail _ (.tail _ (.tail _ (.tail _ (.tail _ (.tail _ (.tail _ (.tail _ (.tail _ (.tail _ (.tail _ (.tail _ (.tail _ (.tail _ (.tail _ (.tail _ (.tail _ (.tail _ (.tail _ (.tail _ (.tail _ (.tail _ (.tail _ (.tail _ (.tail _ (.tail _ (.tail _ (.tail _ (.tail _ (.tail _ (.tail _ (.tail _ (.tail _ (.tail _ (.tail _ (.tail _ (.tail _ (.tail _ (.tail _ (.head _)))))))))))))))))))))))))))))))))))))))))
  case j6nz a => exact shape_jump s (a := a) (List.mem_append_right _ (.tail _ (.tail _ (.tail _ (.tail _ (.tail _ (.tail _ (.tail _ (.tail _ (.tail _ (.tail _ (.tail _ (.tail _ (.tail _ (.tail _ (.tail _ (.tail _ (.tail _ (.tail _ (.tail _ (.tail _ (.tail _ (.tail _ (.tail _ (.tail _ (.tail _ (.tail _ (.tail _ (.tail _ (.tail _ (.tail _ (.tail _ (.tail _ (.tail _ (.tail _ (.tail _ (.tail _ (.tail _ (.tail _ (.tail _ (.tail _ (.head _))))))))))))))))))))))))))))))))))))))))))
  case j6np a => exact shape_jump s (a := a) (List.mem_append_right _ (.tail _ (.tail _ (.tail _ (.tail _ (.tail _ (.tail _ (.tail _ (.tail _ (.tail _ (.tail _ (.tail _ (.tail _ (.tail _ (.tail _ (.tail _ (.tail _ (.tail _ (.tail _ (.tail _ (.tail _ (.tail _ (.tail _ (.tail _ (.tail _ (.tail _ (.tail _ (.tail _ (.tail _ (.tail _ (.tail _ (.tail _ (.tail _ (.tail _ (.tail _ (.tail _ (.tail _ (.tail _ (.tail _ (.tail _ (.tail _ (.tail _ (.head _)))))))))))))))))))))))))))))))))))))))))))
  case jxn a => exact shape_jump s (a := a) (List.mem_append_right _ (.tail _ (.tail _ (.tail _ (.tail _ (.tail _ (.tail _ (.tail _ (.tail _ (.tail _ (.tail _ (.tail _ (.tail _ (.tail _ (.tail _ (.tail _ (.tail _ (.tail _ (.tail _ (.tail _ (.tail _ (.tail _ (.tail _ (.tail _ (.tail _ (.tail _ (.tail _ (.tail _ (.tail _ (.tail _ (.tail _ (.tail _ (.tail _ (.tail _ (.tail _ (.tail _ (.tail _ (.tail _ (.tail _ (.tail _ (.tail _ (.tail _ (.tail _ (.head _))))))))))))))))))))))))))))))))))))))))))))
  case jxz a => exact shape_jump s (a := a) (List.mem_append_right _ (.tail _ (.tail _ (.tail _ (.tail _ (.tail _ (.tail _ (.tail _ (.tail _ (.tail _ (.tail _ (.tail _ (.tail _ (.tail _ (.tail _ (.tail _ (.tail _ (.tail _ (.tail _ (.tail _ (.tail _ (.tail _ (.tail _ (.tail _ (.tail _ (.tail _ (.tail _ (.tail _ (.tail _ (.tail _ (.tail _ (.tail _ (.tail _ (.tail _ (.tail _ (.tail _ (.tail _ (.tail _ (.tail _ (.tail _ (.tail _ (.tail _ (.tail _ (.tail _ (.head _)))))))))))))))))))))))))))))))))))))))))))))
  case jxp a => exact shape_jump s (a := a) (List.mem_append_right _ (.tail _ (.tail _ (.tail _ (.tail _ (.tail _ (.tail _ (.tail _ (.tail _ (.tail _ (.tail _ (.tail _ (.tail _ (.tail _ (.tail _ (.tail _ (.tail _ (.tail _ (.tail _ (.tail _ (.tail _ (.tail _ (.tail _ (.tail _ (.tail _ (.tail _ (.tail _ (.tail _ (.tail _ (.tail _ (.tail _ (.tail _ (.tail _ (.tail _ (.tail _ (.tail _ (.tail _ (.tail _ (.tail _ (.tail _ (.tail _ (.tail _ (.tail _ (.tail _ (.tail _ (.head _))))))))))))))))))))))))))))))))))))))))))))))
  case jxnn a => exact shape_jump s (a := a) (List.mem_append_right _ (.tail _ (.tail _ (.tail _ (.tail _ (.tail _ (.tail _ (.tail _ (.tail _ (.tail _ (.tail _ (.tail _ (.tail _ (.tail _ (.tail _ (.tail _ (.tail _ (.tail _ (.tail _ (.tail _ (.tail _ (.tail _ (.tail _ (.tail _ (.tail _ (.tail _ (.tail _ (.tail _ (.tail _ (.tail _ (.tail _ (.tail _ (.tail _ (.tail _ (.tail _ (.tail _ (.tail _ (.tail _ (.tail _ (.tail _ (.tail _ (.tail _ (.tail _ (.tail _ (.tail _ (.tail _ (.head _)))))))))))))))))))))))))))))))))))))))))))))))
  case jxnz a => exact shape_jump s (a := a) (List.mem_append_right _ (.tail _ (.tail _ (.tail _ (.tail _ (.tail _ (.tail _ (.tail _ (.tail _ (.tail _ (.tail _ (.tail _ (.tail _ (.tail _ (.tail _ (.tail _ (.tail _ (.tail _ (.tail _ (.tail _ (.tail _ (.tail _ (.tail _ (.tail _ (.tail _ (.tail _ (.tail _ (.tail _ (.tail _ (.tail _ (.tail _ (.tail _ (.tail _ (.tail _ (.tail _ (.tail _ (.tail _ (.tail _ (.tail _ (.tail _ (.tail _ (.tail _ (.tail _ (.tail _ (.tail _ (.tail _ (.tail _ (.head _))))))))))))))))))))))))))))))))))))))))))))))))
  case jxnp a => exact shape_jump s (a := a) (List.mem_append_right _ (.tail _ (.tail _ (.tail _ (.tail _ (.tail _ (.tail _ (.tail _ (.tail _ (.tail _ (.tail _ (.tail _ (.tail _ (.tail _ (.tail _ (.tail _ (.tail _ (.tail _ (.tail _ (.tail _ (.tail _ (.tail _ (.tail _ (.tail _ (.tail _ (.tail _ (.tail _ (.tail _ (.tail _ (.tail _ (.tail _ (.tail _ (.tail _ (.tail _ (.tail _ (.tail _ (.tail _ (.tail _ (.tail _ (.tail _ (.tail _ (.tail _ (.tail _ (.tail _ (.tail _ (.tail _ (.tail _ (.tail _ (.head _)))))))))))))))))))))))))))))))))))))))))))))))))
  case inca a => exact shape_increase s (a := a) (.head _)
  case deca a => exact shape_increase s (a := a) (.tail _ (.head _))
  case enta a => exact shape_enter s (a := a) (.head _)
  case enna a => exact shape_enter s (a := a) (.tail _ (.head _))
  case inc1 a => exact shape_increase s (a := a) (.tail _ (.tail _ (.head _)))
  case dec1 a => exact shape_increase s (a := a) (.tail _ (.tail _ (.tail _ (.head _))))
  case ent1 a => exact shape_enter s (a := a) (.tail _ (.tail _ (.head _)))
  case enn1 a => exact shape_enter s (a := a) (.tail _ (.tail _ (.tail _ (.head _))))
  case inc2 a => exact shape_increase s (a := a) (.tail _ (.tail _ (.tail _ (.tail _ (.head _)))))
  case dec2 a => exact shape_increase s (a := a) (.tail _ (.tail _ (.tail _ (.tail _ (.tail _ (.head _))))))
  case ent2 a => exact shape_enter s (a := a) (.tail _ (.tail _ (.tail _ (.tail _ (.head _)))))
  case enn2 a => exact shape_enter s (a := a) (.tail _ (.tail _ (.tail _ (.tail _ (.tail _ (.head _))))))
  case inc3 a => exact shape_increase s (a := a) (.tail _ (.tail _ (.tail _ (.tail _ (.tail _ (.tail _ (.head _)))))))
  case dec3 a => exact shape_increase s (a := a) (.tail _ (.tail _ (.tail _ (.tail _ (.tail _ (.tail _ (.tail _ (.head _))))))))
  case ent3 a => exact shape_enter s (a := a) (.tail _ (.tail _ (.tail _ (.tail _ (.tail _ (.tail _ (.head _)))))))
  case enn3 a => exact shape_enter s (a := a) (.tail _ (.tail _ (.tail _ (.tail _ (.tail _ (.tail _ (.tail _ (.head _))))))))
  case inc4 a => exact shape_increase s (a := a) (.tail _ (.tail _ (.tail _ (.tail _ (.tail _ (.tail _ (.tail _ (.tail _ (.head _)))))))))
  case dec4 a => exact shape_increase s (a := a) (.tail _ (.tail _ (.tail _ (.tail _ (.tail _ (.tail _ (.tail _ (.tail _ (.tail _ (.head _))))))))))
  case ent4 a => exact shape_enter s (a := a) (.tail _ (.tail _ (.tail _ (.tail _ (.tail _ (.tail _ (.tail _ (.tail _ (.head _)))))))))
  case enn4 a => exact shape_enter s (a := a) (.tail _ (.tail _ (.tail _ (.tail _ (.tail _ (.tail _ (.tail _ (.tail _ (.tail _ (.head _))))))))))
  case inc5 a => exact shape_increase s (a := a) (.tail _ (.tail _ (.tail _ (.tail _ (.tail _ (.tail _ (.tail _ (.tail _ (.tail _ (.tail _ (.head _)))))))))))
  case dec5 a => exact shape_increase s (a := a) (.tail _ (.tail _ (.tail _ (.tail _ (.tail _ (.tail _ (.tail _ (.tail _ (.tail _ (.tail _ (.tail _ (.head _))))))))))))
  case ent5 a => exact shape_enter s (a := a) (.tail _ (.tail _ (.tail _ (.tail _ (.tail _ (.tail _ (.tail _ (.tail _ (.tail _ (.tail _ (.head _)))))))))))
  case enn5 a => exact shape_enter s (a := a) (.tail _ (.tail _ (.tail _ (.tail _ (.tail _ (.tail _ (.tail _ (.tail _ (.tail _ (.tail _ (.tail _ (.head _))))))))))))
  case inc6 a => exact shape_increase s (a := a) (.tail _ (.tail _ (.tail _ (.tail _ (.tail _ (.tail _ (.tail _ (.tail _ (.tail _ (.tail _ (.tail _ (.tail _ (.head _)))))))))))))
  case dec6 a => exact shape_increase s (a := a) (.tail _ (.tail _ (.tail _ (.tail _ (.tail _ (.tail _ (.tail _ (.tail _ (.tail _ (.tail _ (.tail _ (.tail _ (.tail _ (.head _))))))))))))))
  case ent6 a => exact shape_enter s (a := a) (.tail _ (.tail _ (.tail _ (.tail _ (.tail _ (.tail _ (.tail _ (.tail _ (.tail _ (.tail _ (.tail _ (.tail _ (.head _)))))))))))))
  case enn6 a => exact shape_enter s (a := a) (.tail _ (.tail _ (.tail _ (.tail _ (.tail _ (.tail _ (.tail _ (.tail _ (.tail _ (.tail _ (.tail _ (.tail _ (.tail _ (.head _))))))))))))))
  case incx a => exact shape_increase s (a := a) (.tail _ (.tail _ (.tail _ (.tail _ (.tail _ (.tail _ (.tail _ (.tail _ (.tail _ (.tail _ (.tail _ (.tail _ (.tail _ (.tail _ (.head _)))))))))))))))
  case decx a => exact shape_increase s (a := a) (.tail _ (.tail _ (.tail _ (.tail _ (.tail _ (.tail _ (.tail _ (.tail _ (.tail _ (.tail _ (.tail _ (.tail _ (.tail _ (.tail _ (.tail _ (.head _))))))))))))))))
  case entx a => exact shape_enter s (a := a) (.tail _ (.tail _ (.tail _ (.tail _ (.tail _ (.tail _ (.tail _ (.tail _ (.tail _ (.tail _ (.tail _ (.tail _ (.tail _ (.tail _ (.head _)))))))))))))))
  case ennx a => exact shape_enter s (a := a) (.tail _ (.tail _ (.tail _ (.tail _ (.tail _ (.tail _ (.tail _ (.tail _ (.tail _ (.tail _ (.tail _ (.tail _ (.tail _ (.tail _ (.tail _ (.head _))))))))))))))))
  case cmpa a f => exact shape_compare s (a := a) (f := f) (.head _)
  case cmp1 a f => exact shape_compare s (a := a) (f := f) (.tail _ (.head _))
  case cmp2 a f => exact shape_compare s (a := a) (f := f) (.tail _ (.tail _ (.head _)))
  case cmp3 a f => exact shape_compare s (a := a) (f := f) (.tail _ (.tail _ (.tail _ (.head _))))
  case cmp4 a f => exact shape_compare s (a := a) (f := f) (.tail _ (.tail _ (.tail _ (.tail _ (.head _)))))
  case cmp5 a f => exact shape_compare s (a := a) (f := f) (.tail _ (.tail _ (.tail _ (.tail _ (.tail _ (.head _))))))
  case cmp6 a f => exact shape_compare s (a := a) (f := f) (.tail _ (.tail _ (.tail _ (.tail _ (.tail _ (.tail _ (.head _)))))))
  case cmpx a f => exact shape_compare s (a := a) (f := f) (.tail _ (.tail _ (.tail _ (.tail _ (.tail _ (.tail _ (.tail _ (.head _))))))))
  case nop a f => exact shape_unimplemented s (a := a) (f := f) (.head _)
  case num a => exact shape_unimplemented s (a := a) (f := 0) (.tail _ (.head _))
  case char a => exact shape_unimplemented s (a := a) (f := 0) (.tail _ (.tail _ (.head _)))
  case hlt a => exact shape_unimplemented s (a := a) (f := 0) (.tail _ (.tail _ (.tail _ (.head _))))
  case opcode5Other a f => exact shape_unimplemented s (a := a) (f := f) (.tail _ (.tail _ (.tail _ (.tail _ (.head _)))))
  case jbus a f => exact shape_unimplemented s (a := a) (f := f) (.tail _ (.tail _ (.tail _ (.tail _ (.tail _ (.head _))))))
  case ioc a f => exact shape_unimplemented s (a := a) (f := f) (.tail _ (.tail _ (.tail _ (.tail _ (.tail _ (.tail _ (.head _)))))))
  case in_ a f => exact shape_unimplemented s (a := a) (f := f) (.tail _ (.tail _ (.tail _ (.tail _ (.tail _ (.tail _ (.tail _ (.head _))))))))
  case out a f => exact shape_unimplemented s (a := a) (f := f) (.tail _ (.tail _ (.tail _ (.tail _ (.tail _ (.tail _ (.tail _ (.tail _ (.head _)))))))))
  case jred a f => exact shape_unimplemented s (a := a) (f := f) (.tail _ (.tail _ (.tail _ (.tail _ (.tail _ (.tail _ (.tail _ (.tail _ (.tail _ (.head _))))))))))

end Sys2Proof.Machine
end

