-- ==== Sys2Proof/Laws/Draws.lean ====
section
/-! SUPPORT. The draw counter and the shared operations: no operation but DIV's reads it, so each does the same from
every value of it (log 3). One lemma per operation. -/

namespace Sys2Proof.Machine

variable (s : State) (n : Nat)

@[simp] theorem indexValue_setDraws (i : Byte) : indexValue i (s.setDraws n) = indexValue i s := by
  unfold indexValue; simp only [State.readReg_setDraws]

@[simp] theorem indexedAddress_setDraws (a : Addr) : indexedAddress a (s.setDraws n) = indexedAddress a s := by
  unfold indexedAddress; simp only [indexValue_setDraws]

@[simp] theorem effectiveAddress_setDraws (a : Addr) : effectiveAddress a (s.setDraws n) = effectiveAddress a s := by
  unfold effectiveAddress; simp only [indexedAddress_setDraws]

@[simp] theorem memRead_setDraws (a : Nat) : (s.setDraws n).memRead a = s.memRead a := (rfl)

@[simp] theorem fieldOperand_setDraws (a : Addr) (f : Byte) : fieldOperand a f (s.setDraws n) = fieldOperand a f s := by
  unfold fieldOperand; simp only [effectiveAddress_setDraws, memRead_setDraws]

theorem memWrite_setDraws (a : Nat) (w : Word) :
    (s.setDraws n).memWrite a w = (s.memWrite a w).map (·.setDraws n) := by
  unfold State.memWrite; split <;> rfl

theorem writeReg_setDraws (r : Reg) (w : Word) :
    (s.setDraws n).writeReg r w = (s.writeReg r w).map (·.setDraws n) := by
  cases r <;> simp only [State.writeReg] <;> first | rfl | (cases narrow w <;> rfl)

theorem noteOverflow_setDraws (k : Int) : (s.setDraws n).noteOverflow k = (s.noteOverflow k).setDraws n := by
  unfold State.noteOverflow; split <;> rfl

/-- A handler that ends in an update of its result. -/
theorem bind_map {α : Type} (x : Except FaultCause α) (f : α → Except FaultCause State) (g : State → State) :
    (x >>= fun a => (f a).map g) = (x >>= f).map g := by cases x <;> rfl

theorem signedAdd_setDraws (r : Reg) (v : Word) :
    signedAdd r v (s.setDraws n) = (signedAdd r v s).map (·.setDraws n) := by
  unfold signedAdd
  simp only [State.readReg_setDraws, State.setDraws_zeroSumSign, noteOverflow_setDraws, writeReg_setDraws]
  split
  · rfl
  · split <;> rfl

theorem loadOp_setDraws (r g a f) : loadOp r g a f (s.setDraws n) = (loadOp r g a f s).map (·.setDraws n) := by
  unfold loadOp; simp only [fieldOperand_setDraws, writeReg_setDraws, bind_map]

theorem storeOp_setDraws (v a f) : storeOp v a f (s.setDraws n) = (storeOp v a f s).map (·.setDraws n) := by
  unfold storeOp; simp only [effectiveAddress_setDraws, memRead_setDraws, memWrite_setDraws, bind_map]

theorem addOp_setDraws (b a f) : addOp b a f (s.setDraws n) = (addOp b a f s).map (·.setDraws n) := by
  unfold addOp; simp only [fieldOperand_setDraws, signedAdd_setDraws, bind_map]

theorem mulOp_setDraws (a f) : mulOp a f (s.setDraws n) = (mulOp a f s).map (·.setDraws n) := by
  unfold mulOp; simp only [fieldOperand_setDraws]; cases fieldOperand a f s <;> rfl

theorem addrXferOp_setDraws (r g b a) : addrXferOp r g b a (s.setDraws n) = (addrXferOp r g b a s).map (·.setDraws n) := by
  unfold addrXferOp; simp only [indexedAddress_setDraws, signedAdd_setDraws, writeReg_setDraws]
  cases b <;> simp only [Bool.false_eq_true, if_true, if_false, bind_map]

theorem compareOp_setDraws (r a f) : compareOp r a f (s.setDraws n) = (compareOp r a f s).map (·.setDraws n) := by
  unfold compareOp; simp only [fieldOperand_setDraws, State.readReg_setDraws]
  cases fieldOperand a f s
  · rfl
  · cases truncateToField (s.readReg r) f <;> (simp only [bind, Except.bind]; rfl)

theorem moveOp_setDraws (a c) : moveOp a c (s.setDraws n) = (moveOp a c s).map (·.setDraws n) := by
  unfold moveOp; simp only [effectiveAddress_setDraws, State.readReg_setDraws, ← bind_map]
  congr 1; funext e
  split
  · rfl
  · split
    · rfl
    · exact writeReg_setDraws (s.setMem _) n _ _

theorem shiftOf_setDraws {i : Instr} {a : Addr} (h : i ∈ shifts a) (k : Nat) :
    shiftOf i k (s.setDraws n) = (shiftOf i k s).setDraws n := by
  unfold shifts at h; simp only [List.mem_cons, List.not_mem_nil, or_false] at h
  rcases h with rfl | rfl | rfl | rfl | rfl | rfl <;> rfl

theorem shiftOp_setDraws {i : Instr} {a : Addr} (h : i ∈ shifts a) :
    shiftOp (shiftOf i) a (s.setDraws n) = (shiftOp (shiftOf i) a s).map (·.setDraws n) := by
  unfold shiftOp; simp only [effectiveAddress_setDraws, shiftOf_setDraws s n h]; cases effectiveAddress a s <;> rfl

/-- The same outcome with the counter `n`. -/
def outDraws (n : Nat) : Outcome → Outcome
  | .next t => .next (t.setDraws n)
  | .fault (.raised c t) => .fault (.raised c (t.setDraws n))
  | .refused r => .refused r

theorem conclude_setDraws (x : Except FaultCause State) :
    conclude (s.setDraws n) (x.map (·.setDraws n)) = outDraws n (conclude s x) := by cases x <;> rfl

theorem saveReturn_setDraws (k) : saveReturn k (s.setDraws n) = (saveReturn k s).map (·.setDraws n) := by
  unfold saveReturn; split
  · rfl
  · exact writeReg_setDraws _ n _ _

theorem jumpCondition_setDraws (r k) : jumpCondition r k (s.setDraws n) = jumpCondition r k s := by
  unfold jumpCondition; cases r <;> simp only [State.readReg_setDraws, State.setDraws_ot, State.setDraws_ci]

theorem clearOverflow_setDraws (k) : clearOverflow k (s.setDraws n) = (clearOverflow k s).setDraws n := by
  unfold clearOverflow; split <;> rfl

theorem jumpOp_setDraws (r k f a) : jumpOp r k f a (s.setDraws n) = outDraws n (jumpOp r k f a s) := by
  unfold jumpOp; simp only [effectiveAddress_setDraws, saveReturn_setDraws]
  cases effectiveAddress a s
  · rfl
  · cases saveReturn k s
    · rfl
    · simp only [Except.map, jumpCondition_setDraws, clearOverflow_setDraws]
      rename_i t; cases jumpCondition r k t with
      | none => rfl
      | some b => cases b <;> rfl

/-- DIV that draws nothing. -/
theorem divOp_setDraws_of_ok {a f t} (h : divOp a f s = .ok t) (hd : t.draws = s.draws) :
    divOp a f (s.setDraws n) = .ok (t.setDraws n) := by
  unfold divOp at *
  rw [fieldOperand_setDraws]
  obtain ⟨v, hv, h⟩ := bind_eq_ok.mp h
  rw [hv]; change divide v _ = _
  unfold divide at *
  split at h
  · cases h
  · rename_i h0
    simp only [] at h
    split at h
    · cases h; simp at hd
    · rename_i h1; cases h; rw [if_neg h0]; simp only []
      rw [if_neg (by simpa using h1)]; rfl

/-- DIV that faults. -/
theorem divOp_setDraws_of_error {a f c} (h : divOp a f s = .error c) : divOp a f (s.setDraws n) = .error c := by
  unfold divOp at *
  rw [fieldOperand_setDraws]
  rcases bind_eq_error.mp h with h | ⟨v, hv, h⟩
  · rw [h]; rfl
  · rw [hv]; change divide v _ = _
    unfold divide at *
    split at h
    · rename_i h0; rw [if_pos h0]; exact h
    · simp only [] at h; split at h <;> cases h

end Sys2Proof.Machine
end

