-- ==== Sys2Proof/Laws/PerInstr.lean ====
section
/-! SUPPORT. One lemma per instruction: the word its encoder writes is made of fields from which the opcode map reads
the instruction back (30 R76, R79). The two tables of Decode, the map and the encoder, are compared here row by row. -/

namespace Sys2Proof.Laws.EncodedFields

/-- The encoder writes a word of some fields, and the opcode map reads the instruction from those fields if it is
well-formed. -/
def Statement (i : Instr) : Prop :=
  ∃ a f c, encode i = pack a f c ∧ (i.wellFormed = true → decodeFields c f a = .ok i)

theorem add (a : Addr) (f : Byte) : Statement (.add a f) := ⟨a, f, 1, rfl, fun _ => rfl⟩
theorem sub (a : Addr) (f : Byte) : Statement (.sub a f) := ⟨a, f, 2, rfl, fun _ => rfl⟩
theorem mul (a : Addr) (f : Byte) : Statement (.mul a f) := ⟨a, f, 3, rfl, fun _ => rfl⟩
theorem div (a : Addr) (f : Byte) : Statement (.div a f) := ⟨a, f, 4, rfl, fun _ => rfl⟩
theorem sla (a : Addr) : Statement (.sla a) := ⟨a, 0, 6, rfl, fun _ => rfl⟩
theorem sra (a : Addr) : Statement (.sra a) := ⟨a, 1, 6, rfl, fun _ => rfl⟩
theorem slax (a : Addr) : Statement (.slax a) := ⟨a, 2, 6, rfl, fun _ => rfl⟩
theorem srax (a : Addr) : Statement (.srax a) := ⟨a, 3, 6, rfl, fun _ => rfl⟩
theorem slc (a : Addr) : Statement (.slc a) := ⟨a, 4, 6, rfl, fun _ => rfl⟩
theorem src (a : Addr) : Statement (.src a) := ⟨a, 5, 6, rfl, fun _ => rfl⟩
theorem move (a : Addr) (f : Byte) : Statement (.move a f) := ⟨a, f, 7, rfl, fun _ => rfl⟩
theorem lda (a : Addr) (f : Byte) : Statement (.lda a f) := ⟨a, f, 8, rfl, fun _ => rfl⟩
theorem ld1 (a : Addr) (f : Byte) : Statement (.ld1 a f) := ⟨a, f, 9, rfl, fun _ => rfl⟩
theorem ld2 (a : Addr) (f : Byte) : Statement (.ld2 a f) := ⟨a, f, 10, rfl, fun _ => rfl⟩
theorem ld3 (a : Addr) (f : Byte) : Statement (.ld3 a f) := ⟨a, f, 11, rfl, fun _ => rfl⟩
theorem ld4 (a : Addr) (f : Byte) : Statement (.ld4 a f) := ⟨a, f, 12, rfl, fun _ => rfl⟩
theorem ld5 (a : Addr) (f : Byte) : Statement (.ld5 a f) := ⟨a, f, 13, rfl, fun _ => rfl⟩
theorem ld6 (a : Addr) (f : Byte) : Statement (.ld6 a f) := ⟨a, f, 14, rfl, fun _ => rfl⟩
theorem ldx (a : Addr) (f : Byte) : Statement (.ldx a f) := ⟨a, f, 15, rfl, fun _ => rfl⟩
theorem ldan (a : Addr) (f : Byte) : Statement (.ldan a f) := ⟨a, f, 16, rfl, fun _ => rfl⟩
theorem ld1n (a : Addr) (f : Byte) : Statement (.ld1n a f) := ⟨a, f, 17, rfl, fun _ => rfl⟩
theorem ld2n (a : Addr) (f : Byte) : Statement (.ld2n a f) := ⟨a, f, 18, rfl, fun _ => rfl⟩
theorem ld3n (a : Addr) (f : Byte) : Statement (.ld3n a f) := ⟨a, f, 19, rfl, fun _ => rfl⟩
theorem ld4n (a : Addr) (f : Byte) : Statement (.ld4n a f) := ⟨a, f, 20, rfl, fun _ => rfl⟩
theorem ld5n (a : Addr) (f : Byte) : Statement (.ld5n a f) := ⟨a, f, 21, rfl, fun _ => rfl⟩
theorem ld6n (a : Addr) (f : Byte) : Statement (.ld6n a f) := ⟨a, f, 22, rfl, fun _ => rfl⟩
theorem ldxn (a : Addr) (f : Byte) : Statement (.ldxn a f) := ⟨a, f, 23, rfl, fun _ => rfl⟩
theorem sta (a : Addr) (f : Byte) : Statement (.sta a f) := ⟨a, f, 24, rfl, fun _ => rfl⟩
theorem st1 (a : Addr) (f : Byte) : Statement (.st1 a f) := ⟨a, f, 25, rfl, fun _ => rfl⟩
theorem st2 (a : Addr) (f : Byte) : Statement (.st2 a f) := ⟨a, f, 26, rfl, fun _ => rfl⟩
theorem st3 (a : Addr) (f : Byte) : Statement (.st3 a f) := ⟨a, f, 27, rfl, fun _ => rfl⟩
theorem st4 (a : Addr) (f : Byte) : Statement (.st4 a f) := ⟨a, f, 28, rfl, fun _ => rfl⟩
theorem st5 (a : Addr) (f : Byte) : Statement (.st5 a f) := ⟨a, f, 29, rfl, fun _ => rfl⟩
theorem st6 (a : Addr) (f : Byte) : Statement (.st6 a f) := ⟨a, f, 30, rfl, fun _ => rfl⟩
theorem stx (a : Addr) (f : Byte) : Statement (.stx a f) := ⟨a, f, 31, rfl, fun _ => rfl⟩
theorem stj (a : Addr) (f : Byte) : Statement (.stj a f) := ⟨a, f, 32, rfl, fun _ => rfl⟩
theorem stz (a : Addr) (f : Byte) : Statement (.stz a f) := ⟨a, f, 33, rfl, fun _ => rfl⟩
theorem jmp (a : Addr) : Statement (.jmp a) := ⟨a, 0, 39, rfl, fun _ => rfl⟩
theorem jsj (a : Addr) : Statement (.jsj a) := ⟨a, 1, 39, rfl, fun _ => rfl⟩
theorem jov (a : Addr) : Statement (.jov a) := ⟨a, 2, 39, rfl, fun _ => rfl⟩
theorem jnov (a : Addr) : Statement (.jnov a) := ⟨a, 3, 39, rfl, fun _ => rfl⟩
theorem jl (a : Addr) : Statement (.jl a) := ⟨a, 4, 39, rfl, fun _ => rfl⟩
theorem je (a : Addr) : Statement (.je a) := ⟨a, 5, 39, rfl, fun _ => rfl⟩
theorem jg (a : Addr) : Statement (.jg a) := ⟨a, 6, 39, rfl, fun _ => rfl⟩
theorem jge (a : Addr) : Statement (.jge a) := ⟨a, 7, 39, rfl, fun _ => rfl⟩
theorem jne (a : Addr) : Statement (.jne a) := ⟨a, 8, 39, rfl, fun _ => rfl⟩
theorem jle (a : Addr) : Statement (.jle a) := ⟨a, 9, 39, rfl, fun _ => rfl⟩
theorem jan (a : Addr) : Statement (.jan a) := ⟨a, 0, 40, rfl, fun _ => rfl⟩
theorem jaz (a : Addr) : Statement (.jaz a) := ⟨a, 1, 40, rfl, fun _ => rfl⟩
theorem jap (a : Addr) : Statement (.jap a) := ⟨a, 2, 40, rfl, fun _ => rfl⟩
theorem jann (a : Addr) : Statement (.jann a) := ⟨a, 3, 40, rfl, fun _ => rfl⟩
theorem janz (a : Addr) : Statement (.janz a) := ⟨a, 4, 40, rfl, fun _ => rfl⟩
theorem janp (a : Addr) : Statement (.janp a) := ⟨a, 5, 40, rfl, fun _ => rfl⟩
theorem j1n (a : Addr) : Statement (.j1n a) := ⟨a, 0, 41, rfl, fun _ => rfl⟩
theorem j1z (a : Addr) : Statement (.j1z a) := ⟨a, 1, 41, rfl, fun _ => rfl⟩
theorem j1p (a : Addr) : Statement (.j1p a) := ⟨a, 2, 41, rfl, fun _ => rfl⟩
theorem j1nn (a : Addr) : Statement (.j1nn a) := ⟨a, 3, 41, rfl, fun _ => rfl⟩
theorem j1nz (a : Addr) : Statement (.j1nz a) := ⟨a, 4, 41, rfl, fun _ => rfl⟩
theorem j1np (a : Addr) : Statement (.j1np a) := ⟨a, 5, 41, rfl, fun _ => rfl⟩
theorem j2n (a : Addr) : Statement (.j2n a) := ⟨a, 0, 42, rfl, fun _ => rfl⟩
theorem j2z (a : Addr) : Statement (.j2z a) := ⟨a, 1, 42, rfl, fun _ => rfl⟩
theorem j2p (a : Addr) : Statement (.j2p a) := ⟨a, 2, 42, rfl, fun _ => rfl⟩
theorem j2nn (a : Addr) : Statement (.j2nn a) := ⟨a, 3, 42, rfl, fun _ => rfl⟩
theorem j2nz (a : Addr) : Statement (.j2nz a) := ⟨a, 4, 42, rfl, fun _ => rfl⟩
theorem j2np (a : Addr) : Statement (.j2np a) := ⟨a, 5, 42, rfl, fun _ => rfl⟩
theorem j3n (a : Addr) : Statement (.j3n a) := ⟨a, 0, 43, rfl, fun _ => rfl⟩
theorem j3z (a : Addr) : Statement (.j3z a) := ⟨a, 1, 43, rfl, fun _ => rfl⟩
theorem j3p (a : Addr) : Statement (.j3p a) := ⟨a, 2, 43, rfl, fun _ => rfl⟩
theorem j3nn (a : Addr) : Statement (.j3nn a) := ⟨a, 3, 43, rfl, fun _ => rfl⟩
theorem j3nz (a : Addr) : Statement (.j3nz a) := ⟨a, 4, 43, rfl, fun _ => rfl⟩
theorem j3np (a : Addr) : Statement (.j3np a) := ⟨a, 5, 43, rfl, fun _ => rfl⟩
theorem j4n (a : Addr) : Statement (.j4n a) := ⟨a, 0, 44, rfl, fun _ => rfl⟩
theorem j4z (a : Addr) : Statement (.j4z a) := ⟨a, 1, 44, rfl, fun _ => rfl⟩
theorem j4p (a : Addr) : Statement (.j4p a) := ⟨a, 2, 44, rfl, fun _ => rfl⟩
theorem j4nn (a : Addr) : Statement (.j4nn a) := ⟨a, 3, 44, rfl, fun _ => rfl⟩
theorem j4nz (a : Addr) : Statement (.j4nz a) := ⟨a, 4, 44, rfl, fun _ => rfl⟩
theorem j4np (a : Addr) : Statement (.j4np a) := ⟨a, 5, 44, rfl, fun _ => rfl⟩
theorem j5n (a : Addr) : Statement (.j5n a) := ⟨a, 0, 45, rfl, fun _ => rfl⟩
theorem j5z (a : Addr) : Statement (.j5z a) := ⟨a, 1, 45, rfl, fun _ => rfl⟩
theorem j5p (a : Addr) : Statement (.j5p a) := ⟨a, 2, 45, rfl, fun _ => rfl⟩
theorem j5nn (a : Addr) : Statement (.j5nn a) := ⟨a, 3, 45, rfl, fun _ => rfl⟩
theorem j5nz (a : Addr) : Statement (.j5nz a) := ⟨a, 4, 45, rfl, fun _ => rfl⟩
theorem j5np (a : Addr) : Statement (.j5np a) := ⟨a, 5, 45, rfl, fun _ => rfl⟩
theorem j6n (a : Addr) : Statement (.j6n a) := ⟨a, 0, 46, rfl, fun _ => rfl⟩
theorem j6z (a : Addr) : Statement (.j6z a) := ⟨a, 1, 46, rfl, fun _ => rfl⟩
theorem j6p (a : Addr) : Statement (.j6p a) := ⟨a, 2, 46, rfl, fun _ => rfl⟩
theorem j6nn (a : Addr) : Statement (.j6nn a) := ⟨a, 3, 46, rfl, fun _ => rfl⟩
theorem j6nz (a : Addr) : Statement (.j6nz a) := ⟨a, 4, 46, rfl, fun _ => rfl⟩
theorem j6np (a : Addr) : Statement (.j6np a) := ⟨a, 5, 46, rfl, fun _ => rfl⟩
theorem jxn (a : Addr) : Statement (.jxn a) := ⟨a, 0, 47, rfl, fun _ => rfl⟩
theorem jxz (a : Addr) : Statement (.jxz a) := ⟨a, 1, 47, rfl, fun _ => rfl⟩
theorem jxp (a : Addr) : Statement (.jxp a) := ⟨a, 2, 47, rfl, fun _ => rfl⟩
theorem jxnn (a : Addr) : Statement (.jxnn a) := ⟨a, 3, 47, rfl, fun _ => rfl⟩
theorem jxnz (a : Addr) : Statement (.jxnz a) := ⟨a, 4, 47, rfl, fun _ => rfl⟩
theorem jxnp (a : Addr) : Statement (.jxnp a) := ⟨a, 5, 47, rfl, fun _ => rfl⟩
theorem inca (a : Addr) : Statement (.inca a) := ⟨a, 0, 48, rfl, fun _ => rfl⟩
theorem deca (a : Addr) : Statement (.deca a) := ⟨a, 1, 48, rfl, fun _ => rfl⟩
theorem enta (a : Addr) : Statement (.enta a) := ⟨a, 2, 48, rfl, fun _ => rfl⟩
theorem enna (a : Addr) : Statement (.enna a) := ⟨a, 3, 48, rfl, fun _ => rfl⟩
theorem inc1 (a : Addr) : Statement (.inc1 a) := ⟨a, 0, 49, rfl, fun _ => rfl⟩
theorem dec1 (a : Addr) : Statement (.dec1 a) := ⟨a, 1, 49, rfl, fun _ => rfl⟩
theorem ent1 (a : Addr) : Statement (.ent1 a) := ⟨a, 2, 49, rfl, fun _ => rfl⟩
theorem enn1 (a : Addr) : Statement (.enn1 a) := ⟨a, 3, 49, rfl, fun _ => rfl⟩
theorem inc2 (a : Addr) : Statement (.inc2 a) := ⟨a, 0, 50, rfl, fun _ => rfl⟩
theorem dec2 (a : Addr) : Statement (.dec2 a) := ⟨a, 1, 50, rfl, fun _ => rfl⟩
theorem ent2 (a : Addr) : Statement (.ent2 a) := ⟨a, 2, 50, rfl, fun _ => rfl⟩
theorem enn2 (a : Addr) : Statement (.enn2 a) := ⟨a, 3, 50, rfl, fun _ => rfl⟩
theorem inc3 (a : Addr) : Statement (.inc3 a) := ⟨a, 0, 51, rfl, fun _ => rfl⟩
theorem dec3 (a : Addr) : Statement (.dec3 a) := ⟨a, 1, 51, rfl, fun _ => rfl⟩
theorem ent3 (a : Addr) : Statement (.ent3 a) := ⟨a, 2, 51, rfl, fun _ => rfl⟩
theorem enn3 (a : Addr) : Statement (.enn3 a) := ⟨a, 3, 51, rfl, fun _ => rfl⟩
theorem inc4 (a : Addr) : Statement (.inc4 a) := ⟨a, 0, 52, rfl, fun _ => rfl⟩
theorem dec4 (a : Addr) : Statement (.dec4 a) := ⟨a, 1, 52, rfl, fun _ => rfl⟩
theorem ent4 (a : Addr) : Statement (.ent4 a) := ⟨a, 2, 52, rfl, fun _ => rfl⟩
theorem enn4 (a : Addr) : Statement (.enn4 a) := ⟨a, 3, 52, rfl, fun _ => rfl⟩
theorem inc5 (a : Addr) : Statement (.inc5 a) := ⟨a, 0, 53, rfl, fun _ => rfl⟩
theorem dec5 (a : Addr) : Statement (.dec5 a) := ⟨a, 1, 53, rfl, fun _ => rfl⟩
theorem ent5 (a : Addr) : Statement (.ent5 a) := ⟨a, 2, 53, rfl, fun _ => rfl⟩
theorem enn5 (a : Addr) : Statement (.enn5 a) := ⟨a, 3, 53, rfl, fun _ => rfl⟩
theorem inc6 (a : Addr) : Statement (.inc6 a) := ⟨a, 0, 54, rfl, fun _ => rfl⟩
theorem dec6 (a : Addr) : Statement (.dec6 a) := ⟨a, 1, 54, rfl, fun _ => rfl⟩
theorem ent6 (a : Addr) : Statement (.ent6 a) := ⟨a, 2, 54, rfl, fun _ => rfl⟩
theorem enn6 (a : Addr) : Statement (.enn6 a) := ⟨a, 3, 54, rfl, fun _ => rfl⟩
theorem incx (a : Addr) : Statement (.incx a) := ⟨a, 0, 55, rfl, fun _ => rfl⟩
theorem decx (a : Addr) : Statement (.decx a) := ⟨a, 1, 55, rfl, fun _ => rfl⟩
theorem entx (a : Addr) : Statement (.entx a) := ⟨a, 2, 55, rfl, fun _ => rfl⟩
theorem ennx (a : Addr) : Statement (.ennx a) := ⟨a, 3, 55, rfl, fun _ => rfl⟩
theorem cmpa (a : Addr) (f : Byte) : Statement (.cmpa a f) := ⟨a, f, 56, rfl, fun _ => rfl⟩
theorem cmp1 (a : Addr) (f : Byte) : Statement (.cmp1 a f) := ⟨a, f, 57, rfl, fun _ => rfl⟩
theorem cmp2 (a : Addr) (f : Byte) : Statement (.cmp2 a f) := ⟨a, f, 58, rfl, fun _ => rfl⟩
theorem cmp3 (a : Addr) (f : Byte) : Statement (.cmp3 a f) := ⟨a, f, 59, rfl, fun _ => rfl⟩
theorem cmp4 (a : Addr) (f : Byte) : Statement (.cmp4 a f) := ⟨a, f, 60, rfl, fun _ => rfl⟩
theorem cmp5 (a : Addr) (f : Byte) : Statement (.cmp5 a f) := ⟨a, f, 61, rfl, fun _ => rfl⟩
theorem cmp6 (a : Addr) (f : Byte) : Statement (.cmp6 a f) := ⟨a, f, 62, rfl, fun _ => rfl⟩
theorem cmpx (a : Addr) (f : Byte) : Statement (.cmpx a f) := ⟨a, f, 63, rfl, fun _ => rfl⟩
theorem nop (a : Addr) (f : Byte) : Statement (.nop a f) := ⟨a, f, 0, rfl, fun _ => rfl⟩
theorem num (a : Addr) : Statement (.num a) := ⟨a, 0, 5, rfl, fun _ => rfl⟩
theorem char (a : Addr) : Statement (.char a) := ⟨a, 1, 5, rfl, fun _ => rfl⟩
theorem hlt (a : Addr) : Statement (.hlt a) := ⟨a, 2, 5, rfl, fun _ => rfl⟩
theorem opcode5Other (a : Addr) (f : Byte) : Statement (.opcode5Other a f) := by
  refine ⟨a, f, 5, rfl, fun h => ?_⟩
  have h3 : 3 ≤ f.toNat := by simpa [Instr.wellFormed] using h
  obtain ⟨k, hk⟩ := Nat.exists_eq_add_of_le' h3
  simp only [decodeFields]
  rw [hk]
  rfl

theorem jbus (a : Addr) (f : Byte) : Statement (.jbus a f) := ⟨a, f, 34, rfl, fun _ => rfl⟩
theorem ioc (a : Addr) (f : Byte) : Statement (.ioc a f) := ⟨a, f, 35, rfl, fun _ => rfl⟩
theorem in_ (a : Addr) (f : Byte) : Statement (.in_ a f) := ⟨a, f, 36, rfl, fun _ => rfl⟩
theorem out (a : Addr) (f : Byte) : Statement (.out a f) := ⟨a, f, 37, rfl, fun _ => rfl⟩
theorem jred (a : Addr) (f : Byte) : Statement (.jred a f) := ⟨a, f, 38, rfl, fun _ => rfl⟩

end Sys2Proof.Laws.EncodedFields
end

