-- ==== Sys2Proof/Tests/Slice0.lean ====
section
/-! SUPPORT. The model's own tests. Every expected value comes from the spec: the word and the operands of a rule's
example, a corner case of a rule, or the encoding `s<<30 | aa<<18 | i<<12 | f<<6 | c` of 30 R88 worked out by hand.
The witness theorems show, for each statement with hypotheses, a state and operands that meet them, clause by clause. -/

namespace Sys2Proof.Tests

open Sys2Proof.Machine

/-! ### Well-formedness -/

/-- The words of opcode 5 with F = 0, 1, 2 are NUM, CHAR and HLT, not the row of the others (30 R84). -/
theorem test_wellFormed_refuses_opcode5_low :
    [(Instr.opcode5Other ⟨false, 0, 0⟩ 0).wellFormed, (Instr.opcode5Other ⟨false, 0, 0⟩ 2).wellFormed,
      (Instr.opcode5Other ⟨false, 0, 0⟩ 3).wellFormed] = [false, false, true] := by decide

/-- The index specs 7..63 are illegal (30 R73). -/
theorem test_index_spec_refused :
    [Addr.indexLegal ⟨false, 0, 6⟩, Addr.indexLegal ⟨false, 0, 7⟩, Addr.indexLegal ⟨false, 0, 63⟩]
      = [true, false, false] := by decide

/-! ### Decoding: every constructor, from the word and the operands of its rule's example -/

theorem test_decode_Arithmetic :
    [decode 0x0FA00141#31,
     decode 0x0FA00142#31,
     decode 0x0FA00143#31,
     decode 0x0FA00144#31]
      = [.ok (.add ⟨false, 1000, 0⟩ 5),
         .ok (.sub ⟨false, 1000, 0⟩ 5),
         .ok (.mul ⟨false, 1000, 0⟩ 5),
         .ok (.div ⟨false, 1000, 0⟩ 5)] := by decide

theorem test_decode_Shift :
    [decode 0x00080006#31,
     decode 0x00080046#31,
     decode 0x00080086#31,
     decode 0x000800C6#31,
     decode 0x00080106#31,
     decode 0x00080146#31]
      = [.ok (.sla ⟨false, 2, 0⟩),
         .ok (.sra ⟨false, 2, 0⟩),
         .ok (.slax ⟨false, 2, 0⟩),
         .ok (.srax ⟨false, 2, 0⟩),
         .ok (.slc ⟨false, 2, 0⟩),
         .ok (.src ⟨false, 2, 0⟩)] := by decide

theorem test_decode_Move :
    [decode 0x0FA000C7#31]
      = [.ok (.move ⟨false, 1000, 0⟩ 3)] := by decide

theorem test_decode_Load :
    [decode 0x1F400348#31,
     decode 0x1F182149#31,
     decode 0x1F18214A#31,
     decode 0x1F18214B#31,
     decode 0x1F18214C#31,
     decode 0x1F18214D#31,
     decode 0x1F18214E#31,
     decode 0x1F40034F#31]
      = [.ok (.lda ⟨false, 2000, 0⟩ 13),
         .ok (.ld1 ⟨false, 1990, 2⟩ 5),
         .ok (.ld2 ⟨false, 1990, 2⟩ 5),
         .ok (.ld3 ⟨false, 1990, 2⟩ 5),
         .ok (.ld4 ⟨false, 1990, 2⟩ 5),
         .ok (.ld5 ⟨false, 1990, 2⟩ 5),
         .ok (.ld6 ⟨false, 1990, 2⟩ 5),
         .ok (.ldx ⟨false, 2000, 0⟩ 13)] := by decide

theorem test_decode_LoadNegative :
    [decode 0x1F400150#31,
     decode 0x1F400951#31,
     decode 0x1F400952#31,
     decode 0x1F400953#31,
     decode 0x1F400954#31,
     decode 0x1F400955#31,
     decode 0x1F400956#31,
     decode 0x1F400157#31]
      = [.ok (.ldan ⟨false, 2000, 0⟩ 5),
         .ok (.ld1n ⟨false, 2000, 0⟩ 37),
         .ok (.ld2n ⟨false, 2000, 0⟩ 37),
         .ok (.ld3n ⟨false, 2000, 0⟩ 37),
         .ok (.ld4n ⟨false, 2000, 0⟩ 37),
         .ok (.ld5n ⟨false, 2000, 0⟩ 37),
         .ok (.ld6n ⟨false, 2000, 0⟩ 37),
         .ok (.ldxn ⟨false, 2000, 0⟩ 5)] := by decide

theorem test_decode_Store :
    [decode 0x1F4004D8#31,
     decode 0x1F400159#31,
     decode 0x1F40015A#31,
     decode 0x1F40015B#31,
     decode 0x1F40015C#31,
     decode 0x1F40015D#31,
     decode 0x1F40015E#31,
     decode 0x1F4004DF#31,
     decode 0x1F4000A0#31,
     decode 0x1F4002E1#31]
      = [.ok (.sta ⟨false, 2000, 0⟩ 19),
         .ok (.st1 ⟨false, 2000, 0⟩ 5),
         .ok (.st2 ⟨false, 2000, 0⟩ 5),
         .ok (.st3 ⟨false, 2000, 0⟩ 5),
         .ok (.st4 ⟨false, 2000, 0⟩ 5),
         .ok (.st5 ⟨false, 2000, 0⟩ 5),
         .ok (.st6 ⟨false, 2000, 0⟩ 5),
         .ok (.stx ⟨false, 2000, 0⟩ 19),
         .ok (.stj ⟨false, 2000, 0⟩ 2),
         .ok (.stz ⟨false, 2000, 0⟩ 11)] := by decide

theorem test_decode_Jump :
    [decode 0x0FA00027#31,
     decode 0x0FA00067#31,
     decode 0x0FA000A7#31,
     decode 0x0FA000E7#31,
     decode 0x0FA00127#31,
     decode 0x0FA00167#31,
     decode 0x0FA001A7#31,
     decode 0x0FA001E7#31,
     decode 0x0FA00227#31,
     decode 0x0FA00267#31]
      = [.ok (.jmp ⟨false, 1000, 0⟩),
         .ok (.jsj ⟨false, 1000, 0⟩),
         .ok (.jov ⟨false, 1000, 0⟩),
         .ok (.jnov ⟨false, 1000, 0⟩),
         .ok (.jl ⟨false, 1000, 0⟩),
         .ok (.je ⟨false, 1000, 0⟩),
         .ok (.jg ⟨false, 1000, 0⟩),
         .ok (.jge ⟨false, 1000, 0⟩),
         .ok (.jne ⟨false, 1000, 0⟩),
         .ok (.jle ⟨false, 1000, 0⟩)] := by decide

theorem test_decode_JumpOnA :
    [decode 0x0FA00028#31,
     decode 0x0FA00068#31,
     decode 0x0FA000A8#31,
     decode 0x0FA000E8#31,
     decode 0x0FA00128#31,
     decode 0x0FA00168#31]
      = [.ok (.jan ⟨false, 1000, 0⟩),
         .ok (.jaz ⟨false, 1000, 0⟩),
         .ok (.jap ⟨false, 1000, 0⟩),
         .ok (.jann ⟨false, 1000, 0⟩),
         .ok (.janz ⟨false, 1000, 0⟩),
         .ok (.janp ⟨false, 1000, 0⟩)] := by decide

theorem test_decode_JumpOn1 :
    [decode 0x0FA00029#31,
     decode 0x0FA00069#31,
     decode 0x0FA000A9#31,
     decode 0x0FA000E9#31,
     decode 0x0FA00129#31,
     decode 0x0FA00169#31]
      = [.ok (.j1n ⟨false, 1000, 0⟩),
         .ok (.j1z ⟨false, 1000, 0⟩),
         .ok (.j1p ⟨false, 1000, 0⟩),
         .ok (.j1nn ⟨false, 1000, 0⟩),
         .ok (.j1nz ⟨false, 1000, 0⟩),
         .ok (.j1np ⟨false, 1000, 0⟩)] := by decide

theorem test_decode_JumpOn2 :
    [decode 0x0FA0002A#31,
     decode 0x0FA0006A#31,
     decode 0x0FA000AA#31,
     decode 0x0FA000EA#31,
     decode 0x0FA0012A#31,
     decode 0x0FA0016A#31]
      = [.ok (.j2n ⟨false, 1000, 0⟩),
         .ok (.j2z ⟨false, 1000, 0⟩),
         .ok (.j2p ⟨false, 1000, 0⟩),
         .ok (.j2nn ⟨false, 1000, 0⟩),
         .ok (.j2nz ⟨false, 1000, 0⟩),
         .ok (.j2np ⟨false, 1000, 0⟩)] := by decide

theorem test_decode_JumpOn3 :
    [decode 0x0FA0002B#31,
     decode 0x0FA0006B#31,
     decode 0x0FA000AB#31,
     decode 0x0FA000EB#31,
     decode 0x0FA0012B#31,
     decode 0x0FA0016B#31]
      = [.ok (.j3n ⟨false, 1000, 0⟩),
         .ok (.j3z ⟨false, 1000, 0⟩),
         .ok (.j3p ⟨false, 1000, 0⟩),
         .ok (.j3nn ⟨false, 1000, 0⟩),
         .ok (.j3nz ⟨false, 1000, 0⟩),
         .ok (.j3np ⟨false, 1000, 0⟩)] := by decide

theorem test_decode_JumpOn4 :
    [decode 0x0FA0002C#31,
     decode 0x0FA0006C#31,
     decode 0x0FA000AC#31,
     decode 0x0FA000EC#31,
     decode 0x0FA0012C#31,
     decode 0x0FA0016C#31]
      = [.ok (.j4n ⟨false, 1000, 0⟩),
         .ok (.j4z ⟨false, 1000, 0⟩),
         .ok (.j4p ⟨false, 1000, 0⟩),
         .ok (.j4nn ⟨false, 1000, 0⟩),
         .ok (.j4nz ⟨false, 1000, 0⟩),
         .ok (.j4np ⟨false, 1000, 0⟩)] := by decide

theorem test_decode_JumpOn5 :
    [decode 0x0FA0002D#31,
     decode 0x0FA0006D#31,
     decode 0x0FA000AD#31,
     decode 0x0FA000ED#31,
     decode 0x0FA0012D#31,
     decode 0x0FA0016D#31]
      = [.ok (.j5n ⟨false, 1000, 0⟩),
         .ok (.j5z ⟨false, 1000, 0⟩),
         .ok (.j5p ⟨false, 1000, 0⟩),
         .ok (.j5nn ⟨false, 1000, 0⟩),
         .ok (.j5nz ⟨false, 1000, 0⟩),
         .ok (.j5np ⟨false, 1000, 0⟩)] := by decide

theorem test_decode_JumpOn6 :
    [decode 0x0FA0002E#31,
     decode 0x0FA0006E#31,
     decode 0x0FA000AE#31,
     decode 0x0FA000EE#31,
     decode 0x0FA0012E#31,
     decode 0x0FA0016E#31]
      = [.ok (.j6n ⟨false, 1000, 0⟩),
         .ok (.j6z ⟨false, 1000, 0⟩),
         .ok (.j6p ⟨false, 1000, 0⟩),
         .ok (.j6nn ⟨false, 1000, 0⟩),
         .ok (.j6nz ⟨false, 1000, 0⟩),
         .ok (.j6np ⟨false, 1000, 0⟩)] := by decide

theorem test_decode_JumpOnX :
    [decode 0x0FA0002F#31,
     decode 0x0FA0006F#31,
     decode 0x0FA000AF#31,
     decode 0x0FA000EF#31,
     decode 0x0FA0012F#31,
     decode 0x0FA0016F#31]
      = [.ok (.jxn ⟨false, 1000, 0⟩),
         .ok (.jxz ⟨false, 1000, 0⟩),
         .ok (.jxp ⟨false, 1000, 0⟩),
         .ok (.jxnn ⟨false, 1000, 0⟩),
         .ok (.jxnz ⟨false, 1000, 0⟩),
         .ok (.jxnp ⟨false, 1000, 0⟩)] := by decide

theorem test_decode_Increase :
    [decode 0x03A80030#31,
     decode 0x00043070#31,
     decode 0x00140031#31,
     decode 0x00500071#31,
     decode 0x00140032#31,
     decode 0x00500072#31,
     decode 0x00140033#31,
     decode 0x00500073#31,
     decode 0x00140034#31,
     decode 0x00500074#31,
     decode 0x00140035#31,
     decode 0x00500075#31,
     decode 0x00140036#31,
     decode 0x00500076#31,
     decode 0x03A80037#31,
     decode 0x00043077#31]
      = [.ok (.inca ⟨false, 234, 0⟩),
         .ok (.deca ⟨false, 1, 3⟩),
         .ok (.inc1 ⟨false, 5, 0⟩),
         .ok (.dec1 ⟨false, 20, 0⟩),
         .ok (.inc2 ⟨false, 5, 0⟩),
         .ok (.dec2 ⟨false, 20, 0⟩),
         .ok (.inc3 ⟨false, 5, 0⟩),
         .ok (.dec3 ⟨false, 20, 0⟩),
         .ok (.inc4 ⟨false, 5, 0⟩),
         .ok (.dec4 ⟨false, 20, 0⟩),
         .ok (.inc5 ⟨false, 5, 0⟩),
         .ok (.dec5 ⟨false, 20, 0⟩),
         .ok (.inc6 ⟨false, 5, 0⟩),
         .ok (.dec6 ⟨false, 20, 0⟩),
         .ok (.incx ⟨false, 234, 0⟩),
         .ok (.decx ⟨false, 1, 3⟩)] := by decide

theorem test_decode_Enter :
    [decode 0x401420B0#31,
     decode 0x000000F0#31,
     decode 0x001420B1#31,
     decode 0x019000F1#31,
     decode 0x001420B2#31,
     decode 0x019000F2#31,
     decode 0x001420B3#31,
     decode 0x019000F3#31,
     decode 0x001420B4#31,
     decode 0x019000F4#31,
     decode 0x001420B5#31,
     decode 0x019000F5#31,
     decode 0x001420B6#31,
     decode 0x019000F6#31,
     decode 0x401420B7#31,
     decode 0x000000F7#31]
      = [.ok (.enta ⟨true, 5, 2⟩),
         .ok (.enna ⟨false, 0, 0⟩),
         .ok (.ent1 ⟨false, 5, 2⟩),
         .ok (.enn1 ⟨false, 100, 0⟩),
         .ok (.ent2 ⟨false, 5, 2⟩),
         .ok (.enn2 ⟨false, 100, 0⟩),
         .ok (.ent3 ⟨false, 5, 2⟩),
         .ok (.enn3 ⟨false, 100, 0⟩),
         .ok (.ent4 ⟨false, 5, 2⟩),
         .ok (.enn4 ⟨false, 100, 0⟩),
         .ok (.ent5 ⟨false, 5, 2⟩),
         .ok (.enn5 ⟨false, 100, 0⟩),
         .ok (.ent6 ⟨false, 5, 2⟩),
         .ok (.enn6 ⟨false, 100, 0⟩),
         .ok (.entx ⟨true, 5, 2⟩),
         .ok (.ennx ⟨false, 0, 0⟩)] := by decide

theorem test_decode_Comparison :
    [decode 0x1F400178#31,
     decode 0x1F400979#31,
     decode 0x1F40097A#31,
     decode 0x1F40097B#31,
     decode 0x1F40097C#31,
     decode 0x1F40097D#31,
     decode 0x1F40097E#31,
     decode 0x1F40017F#31]
      = [.ok (.cmpa ⟨false, 2000, 0⟩ 5),
         .ok (.cmp1 ⟨false, 2000, 0⟩ 37),
         .ok (.cmp2 ⟨false, 2000, 0⟩ 37),
         .ok (.cmp3 ⟨false, 2000, 0⟩ 37),
         .ok (.cmp4 ⟨false, 2000, 0⟩ 37),
         .ok (.cmp5 ⟨false, 2000, 0⟩ 37),
         .ok (.cmp6 ⟨false, 2000, 0⟩ 37),
         .ok (.cmpx ⟨false, 2000, 0⟩ 5)] := by decide

theorem test_decode_Unimplemented :
    [decode 0x00000000#31,
     decode 0x00000005#31,
     decode 0x00000045#31,
     decode 0x00000085#31,
     decode 0x401C20C5#31,
     decode 0x2EE00422#31,
     decode 0x00001463#31,
     decode 0x0FA004A4#31,
     decode 0x7FFC6FE5#31,
     decode 0x1F403026#31]
      = [.ok (.nop ⟨false, 0, 0⟩ 0),
         .ok (.num ⟨false, 0, 0⟩),
         .ok (.char ⟨false, 0, 0⟩),
         .ok (.hlt ⟨false, 0, 0⟩),
         .ok (.opcode5Other ⟨true, 7, 2⟩ 3),
         .ok (.jbus ⟨false, 3000, 0⟩ 16),
         .ok (.ioc ⟨false, 0, 1⟩ 17),
         .ok (.in_ ⟨false, 1000, 0⟩ 18),
         .ok (.out ⟨true, 4095, 6⟩ 63),
         .ok (.jred ⟨false, 2000, 3⟩ 0)] := by decide

/-- The illegal modes and sub-modes at their bounds (30 R86, R87; 47 R275). -/
theorem test_decode_rejects :
    [decode 0x00000186#31, decode 0x00000130#31, decode 0x00000FF7#31, decode 0x000402A7#31, decode 0x000001A8#31,
     decode 0x00000FEF#31]
      = [.error (.invalidFieldSpec 6), .error (.invalidFieldSpec 4), .error (.invalidFieldSpec 63),
         .error (.illegalJump 39 10 ⟨false, 1, 0⟩), .error (.illegalJump 40 6 ⟨false, 0, 0⟩),
         .error (.illegalJump 47 63 ⟨false, 0, 0⟩)] := by decide

/-- The table's numbering: the word as it is; a number that needs bit 31 is no word. -/
theorem test_decodeTableWord :
    decodeTableWord 32 0x1F400348 = some (.lda ⟨false, 2000, 0⟩ 13) ∧ decodeTableWord 12 0x027 = some (.jmp ⟨false, 0, 0⟩) ∧
      decodeTableWord 32 0x80000000 = none := by decide

/-! ### One step, from the examples and corner cases of the rules -/

/-- A machine with the word `w` at 3000, PC there, and the cells before and after it. -/
def start (w : Word) (before : Memory) (after : Memory := []) : State :=
  { State.reset with pc := 3000, mem := before ++ [(3000, w)] ++ after }

/-- The state after a step that completed. -/
def completed (s : State) : Option State :=
  match step s with
  | .next t => some t
  | _ => none

/-- The cause of a step that faulted, and the PC, I1 and J of the state it left. -/
def faulted (s : State) : Option (FaultCause × Nat × Narrow × Narrow) :=
  match step s with
  | .fault q => some (q.cause, q.resume.pc.toNat, q.resume.regI1, q.resume.regJ)
  | _ => none

/-- `- 1 2 3 4 5`. -/
def w12345 : Word := 0x41083105

/-- LDA 2000(1:5) (42 R152). -/
theorem test_lda : (completed (start 0x1F400348 [(2000, w12345)])).map (fun t => (t.regA, t.pc))
    = some (0x01083105, 3001) := by decide

/-- LD1 2000 of a word with byte 3 set faults and leaves I1 (42 R153). -/
theorem test_ld1_narrowing : faulted (start 0x1F400149 [(2000, 4096)])
    = some (.registerNarrowingError 4096, 3001, ⟨false, 0⟩, ⟨false, 0⟩) := by decide

/-- STA 2000(2:3) (43 R172). -/
theorem test_sta : (completed { start 0x1F4004D8 [(2000, w12345)] with regA := 0x061C8240 }).map
    (fun t => (t.mem.read 2000, t.regA, t.pc)) = some (0x41240105, 0x061C8240, 3001) := by decide

/-- STZ clears its word, and memory stays canonical (43 R181). -/
theorem test_stz : (completed (start 0x1F400161 [(2000, w12345)])).map (fun t => t.mem)
    = some [(3000, 0x1F400161)] := by decide

/-- `+(2^30-1) + 1` gives `+0` with OT set (44 R191). -/
theorem test_add_overflow : (completed { start 0x0FA00141 [(1000, 1)] with regA := 0x3FFFFFFF }).map
    (fun t => (t.regA, t.ot)) = some (0, true) := by decide

/-- `-5 + +5` gives `+0` under Plus and `-0` under KeepOld (44 R191). -/
theorem test_add_zero_sum :
    [(completed { start 0x0FA00141 [(1000, 5)] with regA := 0x40000005 }).map (fun t => t.regA),
     (completed { start 0x0FA00141 [(1000, 5)] with regA := 0x40000005, zeroSumSign := .keepOld }).map (fun t => t.regA)]
      = [some 0, some 0x40000000] := by decide

/-- SUB 1000(1:5) of `-5` subtracts `+5`: the field drops the sign before the flip (44 R192). -/
theorem test_sub_field : (completed { start 0x0FA00342 [(1000, 0x40000005)] with regA := 7 }).map (fun t => t.regA)
    = some 2 := by decide

/-- `+10 * -8` gives A = `-0`, X = `-80` (44 R193). -/
theorem test_mul : (completed { start 0x0FA00143 [(1000, 0x40000008)] with regA := 10, regX := 8 }).map
    (fun t => (t.regA, t.regX, t.ot)) = some (0x40000000, 0x40000050, false) := by decide

/-- A = `+0`, X = `+17`, V = `-5` gives A = `-3`, X = `+2` (44 R194). -/
theorem test_div : (completed { start 0x0FA00144 [(1000, 0x40000005)] with regX := 17 }).map
    (fun t => (t.regA, t.regX, t.ot)) = some (0x40000003, 2, false) := by decide

/-- A = `+5`, V = `+5` overflows: OT is set, and the step completes (44 R194). -/
theorem test_div_overflow : (completed { start 0x0FA00144 [(1000, 5)] with regA := 5 }).map (fun t => (t.ot, t.pc))
    = some (true, 3001) := by rfl

/-- ENTA -5,1 with I1 = `+5` gives `-0` (45 R211). -/
theorem test_enta_zero : (completed { start 0x401410B0 [] with regI1 := ⟨false, 5⟩ }).map (fun t => t.regA)
    = some 0x40000000 := by decide

/-- I1 = `+4095` with INC1 1 raises UndefinedOverflow and leaves I1 (45 R220). -/
theorem test_inc1_overflow : faulted { start 0x00040031 [] with regI1 := ⟨false, 4095⟩ }
    = some (.undefinedOverflow 4096, 3001, ⟨false, 4095⟩, ⟨false, 0⟩) := by decide

/-- CMPA 2000 of `-0` and `+0` gives Equal (46 R252). -/
theorem test_cmpa_zeros : (completed { start 0x1F400178 [] with regA := 0x40000000 }).map (fun t => t.ci)
    = some .equal := by decide

/-- JOV 1000 with OT set (47 R282). -/
theorem test_jov : (completed { start 0x0FA000A7 [] with ot := true }).map (fun t => (t.regJ, t.pc, t.ot))
    = some (⟨false, 3001⟩, 1000, false) := by decide

/-- JAZ 1000 is taken on `-0`, JAN is not (47 R274). -/
theorem test_jaz_minus_zero :
    [(completed { start 0x0FA00068 [] with regA := 0x40000000 }).map (fun t => t.pc),
     (completed { start 0x0FA00028 [] with regA := 0x40000000 }).map (fun t => t.pc)] = [some 1000, some 3001] := by
  decide

/-- Opcode 39 with F = 10 faults with J written (47 R275). -/
theorem test_illegal_submode : faulted (start 0x0FA002A7 [])
    = some (.invalidFieldSpec 10, 3001, ⟨false, 0⟩, ⟨false, 3001⟩) := by decide

/-- SLC 2 (48 R345). -/
theorem test_slc : (completed { start 0x00080106 [] with regA := 0x01083105, regX := 0x461C824A }).map
    (fun t => (t.regA, t.regX)) = some (0x03105187, 0x4824A042) := by decide

/-- MOVE 1000(2) with I1 = `+1001`: the forward overlap repeats the first word (49 R362). -/
theorem test_move_overlap :
    (completed { start 0x0FA00087 [(1000, 100), (1001, 200), (1002, 300)] with regI1 := ⟨false, 1001⟩ }).map
      (fun t => (t.mem.read 1000, t.mem.read 1001, t.mem.read 1002, t.regI1))
      = some (100, 100, 100, ⟨false, 1003⟩) := by decide

/-- HLT: UnknownOpcode with (5, 2), PC advanced (30 R84, 70 R411). -/
theorem test_hlt : faulted (start 0x00000085 []) = some (.unknownOpcode 5 2, 3001, ⟨false, 0⟩, ⟨false, 0⟩) := by
  decide

/-- A fetch at 4000 faults and leaves PC (41 R130). -/
theorem test_fetch_fault : faulted { State.reset with pc := 4000 }
    = some (.invalidAddress (.word 4000), 4000, ⟨false, 0⟩, ⟨false, 0⟩) := by decide

/-- A placed word is the next step's (log 8): `ENTA 5` as the first instruction after reset. -/
theorem test_withFetchWord : (completed (State.reset.withFetchWord 32 0x001400B0)).map (fun t => (t.regA, t.pc))
    = some (5, 1) := by decide

/-- A poke that is no word, and a peek above memory (70 R402, R403). -/
theorem test_host : serve (.pokeMemory 0 0x80000000) State.reset = (.err (.invalidWordValue 0x80000000), State.reset) ∧
    serve (.peekMemory 4000) State.reset = (.err (.invalidAddress (.word 4000)), State.reset) := by decide

/-! ### Witnesses: states and operands that meet the hypotheses of the statements, clause by clause -/

/-- A state in which an instruction executes: A = `-5`, X = `+17`, I1 = `+1000`, I2 = `-4095`, I3 = `+4095`, I4 = `+0`,
J = `-0`, OT set, CI Equal, and three words of memory, the last at 3999. -/
def mid : State :=
  { State.reset with
    pc := 3001, regA := 0x40000005, regX := 17, regI1 := ⟨false, 1000⟩, regI2 := ⟨true, 4095⟩,
    regI3 := ⟨false, 4095⟩, regJ := ⟨true, 0⟩, ot := true, ci := .equal,
    mem := [(1000, 5), (2000, w12345), (3999, 0x3FFFFFFF)] }

/-- A machine with PC and one word at the last address of memory. -/
def last (w : Word) : State := { State.reset with pc := 3999, mem := [(3999, w)] }

theorem witness_DecodeEncodeRoundTrip : (Instr.opcode5Other ⟨true, 4095, 63⟩ 3).wellFormed = true ∧
    (Instr.cmpx ⟨true, 4095, 63⟩ 63).wellFormed = true := by decide

theorem witness_EncodeDecodeRoundTrip : decode 0x7FFFFFFF#31 = .ok (.cmpx ⟨true, 4095, 63⟩ 63) ∧
    decode 0#31 = .ok (.nop ⟨false, 0, 0⟩ 0) := by decide

theorem witness_HostEncoderChecksWidths :
    (1 < 2 ∧ 4095 < 4096 ∧ 63 < 64) ∧ (2 ≤ 2 ∨ 4096 ≤ 0) ∧ (2 ≤ 0 ∨ 4096 ≤ 4096) ∧
      (last 0x7148).pc.toNat < 4000 ∧ hostEncode 0 0 7 5 8 = .ok (last 0x7148).fetchedWord := by decide

theorem witness_TruncateSelectsBytes :
    (45 : Byte) ∈ ([0, 1, 2, 3, 4, 5, 9, 10, 11, 12, 13, 18, 19, 20, 21, 27, 28, 29, 36, 37, 45] : List Byte) ∧
      (46 : Byte) ∉ ([0, 1, 2, 3, 4, 5, 9, 10, 11, 12, 13, 18, 19, 20, 21, 27, 28, 29, 36, 37, 45] : List Byte) := by
  decide

theorem witness_EmbedReplacesBytes :
    ((45 : Byte).toNat / 8 ≤ (45 : Byte).toNat % 8 ∧ (45 : Byte).toNat % 8 ≤ 5) ∧
      (8 : Byte).toNat % 8 < (8 : Byte).toNat / 8 ∧ 5 < (6 : Byte).toNat % 8 ∧
      truncateToField w12345 45 = .ok 5 := by decide

theorem witness_SignAndWidthConversions :
    (byte 0xFFF#31 1 = 0 ∧ byte 0xFFF#31 2 = 0 ∧ byte 0xFFF#31 3 = 0) ∧
      ¬ (byte 0x1000#31 1 = 0 ∧ byte 0x1000#31 2 = 0 ∧ byte 0x1000#31 3 = 0) := by decide

theorem witness_CodecLaws : truncateToField w12345 9 = .ok 1 ∧ 8 ≤ (9 : Byte).toNat := by decide

theorem witness_MemoryReadWrite : mid.mem.wf = true ∧ 4000 ≤ 4000 ∧ 3999 < 4000 := by decide

theorem witness_CanonicalMemoryIsDetermined :
    Memory.wf [(3999, 1)] = true ∧ ∀ a, a < 4000 → Memory.read [(3999, 1)] a = Memory.read [(3999, 1)] a :=
  ⟨by decide, fun _ _ => rfl⟩

theorem witness_FetchFaultChangesNothing : (last 0).pc.toNat < 4000 ∧ 4000 ≤ ({ last 0 with pc := 4000 }).pc.toNat := by
  decide

theorem witness_StepRunsDecoded :
    (last 0x001400B0).pc.toNat < 4000 ∧ decode (last 0x001400B0).fetchedWord = .ok (.enta ⟨false, 5, 0⟩) := by decide

theorem witness_ProgramCounterAfterStep_fault :
    (last 0x85).pc.toNat < 4000 ∧ ∃ q, step (last 0x85) = .fault q := ⟨by decide, _, rfl⟩

theorem witness_ProgramCounterAfterStep_next :
    decode (last 0x001400B0).fetchedWord = .ok (.enta ⟨false, 5, 0⟩) ∧ (∃ t, step (last 0x001400B0) = .next t) ∧
      ∀ a, Instr.enta ⟨false, 5, 0⟩ ∉ jumps a :=
  ⟨by decide, ⟨_, rfl⟩, fun a h => by simp [jumps, plainJumps, indicatorJumps, registerJumps, sixJumps] at h⟩

theorem witness_ProgramCounterAfterStep_jump :
    decode (last 0x0FA00027).fetchedWord = .ok (.jmp ⟨false, 1000, 0⟩) ∧ (∃ t, step (last 0x0FA00027) = .next t) ∧
      Instr.jmp ⟨false, 1000, 0⟩ ∈ jumps ⟨false, 1000, 0⟩ ∧ Instr.jmp ⟨false, 1000, 0⟩ ≠ .jsj ⟨false, 1000, 0⟩ :=
  ⟨by decide, ⟨_, rfl⟩, by decide, by decide⟩

theorem witness_DecodeFaultsAdvanceOnly :
    (opcodeOf (last 0).fetchedWord).toNat ∈ [0, 5, 34, 35, 36, 37, 38] ∧
      (opcodeOf (last 0x26).fetchedWord).toNat ∈ [0, 5, 34, 35, 36, 37, 38] ∧
      illegalMode (opcodeOf (last 0x186).fetchedWord).toNat (fieldOf (last 0x186).fetchedWord).toNat ∧
      illegalMode (opcodeOf (last 0x137).fetchedWord).toNat (fieldOf (last 0x137).fetchedWord).toNat := by
  unfold illegalMode; decide

theorem witness_IllegalSubmodeFaultsAfterJ :
    illegalSubmode (opcodeOf (last 0x000402A7).fetchedWord).toNat (fieldOf (last 0x000402A7).fetchedWord).toNat ∧
      illegalSubmode (opcodeOf (last 0x400401AF).fetchedWord).toNat (fieldOf (last 0x400401AF).fetchedWord).toNat ∧
      effectiveAddress (addrOf (last 0x000402A7).fetchedWord) (last 0x000402A7) = .ok 1 ∧
      effectiveAddress (addrOf (last 0x400401AF).fetchedWord) (last 0x400401AF)
        = .error (.negativeEffectiveAddress (-1)) := by unfold illegalSubmode; decide

theorem witness_FaultLeavesState :
    (∃ c t, step { last 0 with pc := 4000 } = .fault (.raised c t)) ∧ (∃ c t, step (last 0) = .fault (.raised c t)) ∧
      ∃ c t, step (last 0x000402A7) = .fault (.raised c t) := ⟨⟨_, _, rfl⟩, ⟨_, _, rfl⟩, ⟨_, _, rfl⟩⟩

theorem witness_StepKeepsSound :
    (last 0x001400B0).sound = true ∧ (∃ t, step (last 0x001400B0) = .next t) ∧
      (last 0x85).sound = true ∧ ∃ q, step (last 0) = .fault q := ⟨by decide, ⟨_, rfl⟩, by decide, ⟨_, rfl⟩⟩

theorem witness_CheckOrder :
    (Instr.lda ⟨false, 0, 7⟩ 5 ∈ addressUsers ⟨false, 0, 7⟩ 5 ∧ Instr.enta ⟨false, 0, 7⟩ ∈ transfers ⟨false, 0, 7⟩) ∧
      (Instr.sla ⟨true, 1, 0⟩ ∈ addressUsers ⟨true, 1, 0⟩ 5 ∧ indexedAddress ⟨true, 1, 0⟩ mid = .ok (-1)) ∧
      (Instr.cmpa ⟨false, 4000, 0⟩ 6 ∈ fieldReaders ⟨false, 4000, 0⟩ 6 ∧
        effectiveAddress ⟨false, 4000, 0⟩ mid = .ok 4000) ∧
      Instr.sta ⟨false, 3999, 0⟩ 6 ∈ fieldReaders ⟨false, 3999, 0⟩ 6 ∧
        effectiveAddress ⟨false, 3999, 0⟩ mid = .ok 3999 ∧ legalField 6 = false := by decide

theorem witness_IndexValue :
    (6, Reg.i6) ∈ ([(1, .i1), (2, .i2), (3, .i3), (4, .i4), (5, .i5), (6, .i6)] : List (Byte × Reg)) ∧
      7 ≤ (7 : Byte).toNat := by decide

theorem witness_EffectiveAddress :
    indexValue 3 mid = .ok 4095 ∧ aval ⟨false, 4095, 3⟩ + 4095 = 8190 ∧
      indexValue 2 mid = .ok (-4095) ∧ aval ⟨false, 4094, 2⟩ + -4095 < 0 ∧ aval ⟨false, 4095, 2⟩ + -4095 = 0 ∧
      indexValue 0 mid = .ok 0 := by decide

theorem witness_LoadRule :
    (Instr.ld1 ⟨false, 3999, 0⟩ 5, Reg.i1, false) ∈ loads ⟨false, 3999, 0⟩ 5 ∧ Reg.wide .i1 = false ∧
      effectiveAddress ⟨true, 1, 0⟩ mid = .error (.negativeEffectiveAddress (-1)) ∧
      effectiveAddress ⟨false, 4000, 0⟩ mid = .ok 4000 ∧ effectiveAddress ⟨false, 3999, 0⟩ mid = .ok 3999 ∧
      truncateToField (mid.mem.read 3999) 6 = .error (.invalidFieldSpec 6) ∧
      (truncateToField (mid.mem.read 3999) 5 = .ok 0x3FFFFFFF ∧ 2 ^ 12 ≤ mag 0x3FFFFFFF) ∧
      truncateToField (mid.mem.read 3999) 37 = .ok 0xFFF ∧ mag 0xFFF < 2 ^ 12 := by decide

theorem witness_NarrowLoadNeedsZeroHighBytes :
    (Instr.ld6n ⟨false, 2000, 0⟩ 37, Reg.i6, true) ∈ loads ⟨false, 2000, 0⟩ 37 ∧ Reg.wide .i6 = false ∧
      effectiveAddress ⟨false, 2000, 0⟩ mid = .ok 2000 ∧ legalField 37 = true ∧
      (37 : Byte).toNat % 8 + 1 ≤ max ((37 : Byte).toNat / 8) 1 + 2 ∧
      (completed { last 0x1F400956 with mem := [(2000, w12345), (3999, 0x1F400956)] }).isSome = true := by decide

theorem witness_StoreRule :
    mid.mem.wf = true ∧ (Instr.stz ⟨false, 3999, 0⟩ 5, none) ∈ stores ⟨false, 3999, 0⟩ 5 ∧
      effectiveAddress ⟨false, 0, 7⟩ mid = .error (.invalidIndexSpec 7) ∧
      effectiveAddress ⟨false, 4000, 0⟩ mid = .ok 4000 ∧ effectiveAddress ⟨false, 3999, 0⟩ mid = .ok 3999 ∧
      embedFromField (sourceWord mid none) (mid.mem.read 3999) 6 = .error (.invalidFieldSpec 6) ∧
      embedFromField (sourceWord mid none) (mid.mem.read 3999) 5 = .ok 0 := by decide

theorem witness_StoreFrame :
    (Instr.sta ⟨false, 3999, 0⟩ 5, some Reg.a) ∈ stores ⟨false, 3999, 0⟩ 5 ∧
      effectiveAddress ⟨false, 3999, 0⟩ mid = .ok 3999 ∧ ∃ t, exec (.sta ⟨false, 3999, 0⟩ 5) mid = .next t :=
  ⟨by decide, by decide, _, rfl⟩

theorem witness_AddAndSubtract : operandIs ⟨false, 1000, 0⟩ 5 mid 5 ∧ operandIs ⟨false, 3999, 0⟩ 5 mid 0x3FFFFFFF :=
  ⟨⟨1000, by decide⟩, ⟨3999, by decide⟩⟩

theorem witness_Multiply : operandIs ⟨false, 3999, 0⟩ 5 mid 0x3FFFFFFF := ⟨3999, by decide⟩

theorem witness_DivideFits :
    operandIs ⟨false, 3999, 0⟩ 5 mid 0x3FFFFFFF ∧
      mag ({ mid with regA := 0x3FFFFFFE }).regA < mag 0x3FFFFFFF := ⟨⟨3999, by decide⟩, by decide⟩

theorem witness_DivideOverflows : operandIs ⟨false, 1000, 0⟩ 5 mid 5 ∧ mag 5 ≠ 0 ∧ mag 5 ≤ mag mid.regA :=
  ⟨⟨1000, by decide⟩, by decide⟩

theorem witness_DivideByZeroFaults :
    operandIs ⟨false, 2000, 0⟩ 0 mid 0x40000000 ∧ mag 0x40000000 = 0 ∧
      effectiveAddress ⟨false, 3999, 0⟩ mid = .ok 3999 := ⟨⟨2000, by decide⟩, by decide, by decide⟩

theorem witness_EnterRule :
    (Instr.enn2 ⟨false, 4095, 0⟩, Reg.i2, true) ∈ enters ⟨false, 4095, 0⟩ ∧ Reg.wide .i2 = false ∧
      (indexedAddress ⟨false, 4095, 0⟩ mid = .ok 4095 ∧ (4095 : Int).natAbs < 2 ^ 12) ∧
      (indexedAddress ⟨false, 1, 3⟩ mid = .ok 4096 ∧ 2 ^ 12 ≤ (4096 : Int).natAbs) := by decide

theorem witness_EnterZeroTakesInstructionSign :
    (Instr.enta ⟨true, 0, 0⟩, Reg.a, false) ∈ enters ⟨true, 0, 0⟩ ∧ indexedAddress ⟨true, 0, 0⟩ mid = .ok 0 ∧
      (Instr.inc1 ⟨true, 0, 0⟩, Reg.i1, false) ∈ increases ⟨true, 0, 0⟩ ∧
      (Instr.inc1 ⟨false, 4095, 2⟩, Reg.i1, false) ∈ increases ⟨false, 4095, 2⟩ ∧
      indexedAddress ⟨false, 4095, 2⟩ mid = .ok 0 := by decide

theorem witness_IncreaseWideRegister :
    (Instr.decx ⟨true, 4095, 2⟩, Reg.x, true) ∈ increases ⟨true, 4095, 2⟩ ∧ Reg.wide .x = true ∧
      indexedAddress ⟨true, 4095, 2⟩ mid = .ok (-8190) := by decide

theorem witness_IncreaseIndexRegister :
    (Instr.inc1 ⟨false, 3095, 0⟩, Reg.i1, false) ∈ increases ⟨false, 3095, 0⟩ ∧ Reg.wide .i1 = false ∧
      indexedAddress ⟨false, 3095, 0⟩ mid = .ok 3095 ∧ (toInt (mid.readReg .i1) + 3095).natAbs = 4095 := by decide

theorem witness_IncreaseIndexRegisterOverflows :
    (Instr.dec2 ⟨false, 1, 0⟩, Reg.i2, true) ∈ increases ⟨false, 1, 0⟩ ∧ Reg.wide .i2 = false ∧
      indexedAddress ⟨false, 1, 0⟩ mid = .ok 1 ∧ (toInt (mid.readReg .i2) + -1).natAbs = 4096 := by decide

theorem witness_CompareRule :
    (Instr.cmp1 ⟨false, 3999, 0⟩ 45, Reg.i1) ∈ compares ⟨false, 3999, 0⟩ 45 ∧
      effectiveAddress ⟨true, 1, 0⟩ mid = .error (.negativeEffectiveAddress (-1)) ∧
      effectiveAddress ⟨false, 4000, 0⟩ mid = .ok 4000 ∧ effectiveAddress ⟨false, 3999, 0⟩ mid = .ok 3999 ∧
      truncateToField (mid.mem.read 3999) 46 = .error (.invalidFieldSpec 46) ∧
      truncateToField (mid.mem.read 3999) 45 = .ok 63 := by decide

theorem witness_ZerosCompareEqual :
    (Instr.cmpa ⟨false, 0, 0⟩ 0, Reg.a) ∈ compares ⟨false, 0, 0⟩ 0 ∧ operandIs ⟨false, 0, 0⟩ 0 mid (mkword false 0) ∧
      truncateToField (mid.readReg .a) 0 = .ok (mkword true 0) := ⟨by decide, ⟨0, by decide⟩, by decide⟩

theorem witness_JumpTarget :
    mid.dispatched = true ∧ Instr.jmp ⟨false, 4000, 0⟩ ∈ jumps ⟨false, 4000, 0⟩ ∧
      effectiveAddress ⟨true, 1, 0⟩ mid = .error (.negativeEffectiveAddress (-1)) ∧
      effectiveAddress ⟨false, 4000, 0⟩ mid = .ok 4000 := by decide

theorem witness_JumpSavesReturnAddress :
    ({ mid with pc := 4000 }).dispatched = true ∧ Instr.je ⟨false, 0, 0⟩ ∈ jumps ⟨false, 0, 0⟩ ∧
      Instr.je ⟨false, 0, 0⟩ ≠ .jsj ⟨false, 0, 0⟩ ∧ (∃ t, exec (.je ⟨false, 0, 0⟩) { mid with pc := 4000 } = .next t) ∧
      Instr.jsj ⟨false, 0, 0⟩ ∈ jumps ⟨false, 0, 0⟩ ∧ ∃ t, exec (.jsj ⟨false, 0, 0⟩) { mid with pc := 4000 } = .next t :=
  ⟨by decide, by decide, by decide, ⟨_, rfl⟩, by decide, _, rfl⟩

theorem witness_UnconditionalJumps :
    ({ mid with pc := 1 }).dispatched = true ∧ effectiveAddress ⟨false, 4095, 3⟩ { mid with pc := 1 } = .ok 8190 := by
  decide

theorem witness_OverflowJumps :
    mid.dispatched = true ∧ effectiveAddress ⟨true, 0, 0⟩ mid = .ok 0 ∧ mid.ot = true ∧
      (match exec (.jov ⟨true, 0, 0⟩) mid with | .next t => decide (t.ot = false) | _ => false) = true := by decide

theorem witness_ConditionalJumps :
    mid.dispatched = true ∧ effectiveAddress ⟨false, 0, 1⟩ mid = .ok 1000 ∧
      (Instr.jge ⟨false, 0, 1⟩, [Indicator.equal, .greater]) ∈ indicatorJumps ⟨false, 0, 1⟩ ∧
      (Instr.j4np ⟨false, 0, 1⟩, Reg.i4, [Indicator.less, .equal]) ∈ registerJumps ⟨false, 0, 1⟩ := by decide

theorem witness_JumpFrame :
    Instr.jnov ⟨false, 0, 0⟩ ∈ jumps ⟨false, 0, 0⟩ ∧ (∃ t, exec (.jnov ⟨false, 0, 0⟩) mid = .next t) ∧
      Instr.jsj ⟨false, 0, 0⟩ ∈ jumps ⟨false, 0, 0⟩ ∧ (∃ t, exec (.jsj ⟨false, 0, 0⟩) mid = .next t) ∧
      Instr.jan ⟨false, 0, 0⟩ ∈ jumps ⟨false, 0, 0⟩ ∧ ∃ t, exec (.jan ⟨false, 0, 0⟩) mid = .next t :=
  ⟨by decide, ⟨_, rfl⟩, by decide, ⟨_, rfl⟩, by decide, _, rfl⟩

theorem witness_PlainShifts :
    effectiveAddress ⟨true, 0, 0⟩ mid = .ok 0 ∧ effectiveAddress ⟨false, 10, 0⟩ mid = .ok 10 ∧
      effectiveAddress ⟨false, 4095, 3⟩ mid = .ok 8190 := by decide

theorem witness_CircularShiftsMoveBytes :
    effectiveAddress ⟨false, 0, 0⟩ mid = .ok 0 ∧ effectiveAddress ⟨false, 9, 0⟩ mid = .ok 9 ∧
      effectiveAddress ⟨false, 4095, 3⟩ mid = .ok 8190 := by decide

theorem witness_CircularShiftsCancel :
    effectiveAddress ⟨false, 10, 0⟩ mid = .ok 10 ∧ effectiveAddress ⟨false, 10, 0⟩ mid = .ok (10 - 10 % 10) ∧
      effectiveAddress ⟨false, 9, 0⟩ mid = .ok 9 ∧ effectiveAddress ⟨false, 1, 0⟩ mid = .ok (10 - 9 % 10) ∧
      effectiveAddress ⟨false, 5, 0⟩ mid = .ok 5 := by decide

theorem witness_MoveRule :
    mid.mem.wf = true ∧ effectiveAddress ⟨false, 3999, 0⟩ mid = .ok 3999 ∧ (1 : Byte) ≠ 0 ∧
      4000 < 3999 + (2 : Byte).toNat ∧ toInt (({ mid with regI1 := ⟨true, 1⟩ }).readReg .i1) < 0 ∧
      4000 < toInt (({ mid with regI1 := ⟨false, 3938⟩ }).readReg .i1) + (63 : Byte).toNat ∧
      toInt (mid.readReg .i1) = (1000 : Nat) ∧ 3999 + (1 : Byte).toNat ≤ 4000 ∧ 1000 + (1 : Byte).toNat ≤ 4000 ∧
      ¬ (3999 < 1000 ∧ 1000 < 3999 + (1 : Byte).toNat) := by decide

theorem witness_MoveOverlap :
    mid.mem.wf = true ∧ effectiveAddress ⟨false, 999, 0⟩ mid = .ok 999 ∧ toInt (mid.readReg .i1) = (1000 : Nat) ∧
      (999 < 1000 ∧ 1000 < 999 + (2 : Byte).toNat) ∧ effectiveAddress ⟨false, 1062, 0⟩ mid = .ok 1062 ∧
      (1000 < 1062 ∧ 1062 < 1000 + (63 : Byte).toNat) := by decide

theorem witness_MoveFrame :
    (∃ t, exec (.move ⟨false, 2000, 0⟩ 63) mid = .next t) ∧ ∃ t, exec (.move ⟨false, 2000, 0⟩ 0) mid = .next t :=
  ⟨⟨_, rfl⟩, _, rfl⟩

theorem witness_RegisterOnlyFrame :
    (Instr.enta ⟨false, 0, 0⟩, [Reg.a]) ∈ registerOnly ⟨false, 0, 0⟩ 5 ∧ (∃ t, exec (.enta ⟨false, 0, 0⟩) mid = .next t) ∧
      Instr.enta ⟨false, 0, 0⟩ ∉ toggleSetters ⟨false, 0, 0⟩ 5 ∧
      Instr.enta ⟨false, 0, 0⟩ ≠ .div ⟨false, 0, 0⟩ 5 ∧
      (∀ r, (Instr.enta ⟨false, 0, 0⟩, r) ∉ compares ⟨false, 0, 0⟩ 5) ∧ mid.ot = true :=
  ⟨by decide, ⟨_, rfl⟩, by decide, by decide, fun r => by cases r <;> decide, rfl⟩

theorem witness_UnimplementedFault :
    (Instr.hlt ⟨false, 0, 0⟩, (5 : Byte), (2 : Byte)) ∈ unimplementeds ⟨false, 0, 0⟩ 0 ∧
      (Instr.opcode5Other ⟨false, 0, 0⟩ 63, (5 : Byte), (63 : Byte)) ∈ unimplementeds ⟨false, 0, 0⟩ 63 := by decide

theorem witness_StateWriters :
    (match exec (.cmpa ⟨false, 1000, 0⟩ 5) mid with | .next t => decide (t.ci ≠ mid.ci) | _ => false) = true ∧
      (match exec (.jov ⟨false, 1000, 0⟩) mid with
        | .next t => decide (t.ot ≠ mid.ot ∧ t.pc ≠ mid.pc ∧ t.regJ ≠ mid.regJ) | _ => false) = true ∧
      (match exec (.stz ⟨false, 1000, 0⟩ 5) mid with
        | .next t => decide (t.mem.read 1000 ≠ mid.mem.read 1000) | _ => false) = true := by decide

theorem witness_DrawCounterIsInvisible :
    (∃ t, step (last 0x001400B0) = .next t ∧ t.draws = (last 0x001400B0).draws) ∧
      (∃ c t, step (last 0x85) = .fault (.raised c t)) ∧
      ∃ c t, step { last 0 with pc := 4000 } = .fault (.raised c t) := ⟨⟨_, rfl, rfl⟩, ⟨_, _, rfl⟩, _, _, rfl⟩

theorem witness_HostPeeksAndPokes :
    mid.mem.wf = true ∧ 3999 < 4000 ∧ 4000 ≤ 4000 ∧ 2 ^ 31 ≤ 2147483648 ∧ 2147483647 < 2 ^ 31 ∧
      (Reg.wide .j = false ∧ 2 ^ 12 ≤ 4096 % 2 ^ 30) ∧ Reg.wide .a = true ∧ 0x40000FFF % 2 ^ 30 < 2 ^ 12 := by decide

theorem witness_HostStepAndFlags :
    Command.peekOverflowToggle ≠ .new ∧ Command.peekOverflowToggle ≠ .step ∧ (∃ t, step (last 0x001400B0) = .next t) ∧
      ∃ c t, step (last 0) = .fault (.raised c t) := ⟨by decide, by decide, ⟨_, rfl⟩, _, _, rfl⟩

theorem witness_SessionsKeepSound : State.reset.sound = true ∧ mid.sound = true := by decide

end Sys2Proof.Tests
end

section
/-! The state after reset (10 R40): the word `+0`, memory in which no address is listed, and the statement itself. -/

namespace Sys2Proof.Machine

/-- `+0` is the word of 31 zero bits (00 R8). -/
theorem mkword_plusZero : mkword false 0 = 0 := rfl

@[simp] theorem Memory.read_nil (a : Nat) : Memory.read [] a = Memory.unlisted := rfl

/-- Reset lists no address, so every address of memory reads `+0` (10 R36, R40). -/
theorem memRead_reset {a : Nat} (h : a < 4000) : State.reset.memRead a = .ok (mkword false 0) :=
  memRead_ok_iff.mpr ⟨h, (Memory.read_nil a).symm⟩

/-- The narrow registers of reset are one value, so a fact of `+0` is a fact of each of them (10 R40). -/
theorem eq_plusZero_of_mem_reset_narrow {n : Narrow}
    (h : n ∈ [State.reset.regI1, State.reset.regI2, State.reset.regI3, State.reset.regI4, State.reset.regI5,
      State.reset.regI6, State.reset.regJ]) : n = Narrow.plusZero :=
  List.eq_of_mem_replicate (show n ∈ List.replicate 7 Narrow.plusZero from h)

/-- Settles O22, row by row of 10 R40: A and X, the narrow registers, memory, then PC, OT and CI. -/
theorem resetState : Obligations.ResetState := by
  refine ⟨mkword_plusZero.symm, mkword_plusZero.symm, fun n hn => ?narrow, fun a ha => memRead_reset ha, rfl, rfl, rfl⟩
  case narrow =>
    obtain rfl := eq_plusZero_of_mem_reset_narrow hn
    exact ⟨rfl, rfl⟩

end Sys2Proof.Machine
end

section
/-! The fields of an instruction word (30 R70), bit by bit and as MIX bytes, and the statement itself. -/

namespace Sys2Proof.Machine

/-! ### Bit by bit -/

theorem getLsbD_opcodeOf (w : Word) {k : Nat} (h : k < 6) : (opcodeOf w).getLsbD k = w.getLsbD k := by
  simp [opcodeOf, h]

theorem getLsbD_fieldOf (w : Word) {k : Nat} (h : k < 6) : (fieldOf w).getLsbD k = w.getLsbD (6 + k) := by
  simp [fieldOf, h]

theorem getLsbD_addrOf_i (w : Word) {k : Nat} (h : k < 6) : (addrOf w).i.getLsbD k = w.getLsbD (12 + k) := by
  simp [addrOf, h]

theorem getLsbD_addrOf_aa (w : Word) {k : Nat} (h : k < 12) : (addrOf w).aa.getLsbD k = w.getLsbD (18 + k) := by
  simp [addrOf, h]

/-! ### As MIX bytes (00 R7) -/

theorem toNat_opcodeOf_eq_byte (w : Word) : (opcodeOf w).toNat = byte w 5 := by
  rw [toNat_opcodeOf, byte, Nat.pow_zero, Nat.div_one]

theorem toNat_fieldOf_eq_byte (w : Word) : (fieldOf w).toNat = byte w 4 := toNat_fieldOf w

theorem toNat_addrOf_i_eq_byte (w : Word) : (addrOf w).i.toNat = byte w 3 := toNat_addrOf_i w

/-- AA spans two bytes: its upper six bits are byte 1 and its lower six are byte 2 (30 R70). -/
theorem toNat_addrOf_aa_eq_bytes (w : Word) : (addrOf w).aa.toNat = 64 * byte w 1 + byte w 2 := by
  rw [toNat_addrOf_aa]
  unfold byte
  omega

/-- Settles O4: the bits of each field, then its bytes, then the index specs 0..6 (30 R73). -/
theorem instructionFieldLayout : Obligations.InstructionFieldLayout := by
  refine ⟨fun w => ⟨?opcode, ?field, ?index, ?address, rfl, ?bytes⟩, rfl⟩
  case opcode => exact fun _ => getLsbD_opcodeOf w
  case field => exact fun _ => getLsbD_fieldOf w
  case index => exact fun _ => getLsbD_addrOf_i w
  case address => exact fun _ => getLsbD_addrOf_aa w
  case bytes =>
    exact ⟨toNat_opcodeOf_eq_byte w, toNat_fieldOf_eq_byte w, toNat_addrOf_i_eq_byte w, toNat_addrOf_aa_eq_bytes w⟩

end Sys2Proof.Machine
end

section
/-! The host's encoder (30 R88): when it answers and with which word, when it refuses, that it packs the fields of an
instruction word, and the statement itself. One word it accepts faults when the machine runs it, so the step and the
index check are here too. -/

namespace Sys2Proof.Machine

/-! ### What the encoder answers -/

/-- The encoder answers iff the five fields fit their widths, and the number of its word is their weighted sum. -/
theorem hostEncode_ok_iff {s aa i f c : Nat} {w : Word} :
    hostEncode s aa i f c = .ok w ↔
      (s < 2 ∧ aa < 4096 ∧ i < 64 ∧ f < 64 ∧ c < 64) ∧
        w.toNat = s * 2 ^ 30 + aa * 2 ^ 18 + i * 2 ^ 12 + f * 2 ^ 6 + c := by
  unfold hostEncode
  split
  case isTrue hfit =>
    have hlt : s * 2 ^ 30 + aa * 2 ^ 18 + i * 2 ^ 12 + f * 2 ^ 6 + c < 2 ^ 31 := by omega
    rw [Except.ok.injEq, ← BitVec.toNat_inj, BitVec.toNat_ofNat, Nat.mod_eq_of_lt hlt, eq_comm]
    exact (and_iff_right hfit).symm
  case isFalse hfit => exact ⟨nofun, fun h => absurd h.1 hfit⟩

/-- The encoder refuses iff one of the five fields exceeds its width. -/
theorem hostEncode_error_iff {s aa i f c : Nat} {e : EncodeError} :
    hostEncode s aa i f c = .error e ↔ 2 ≤ s ∨ 4096 ≤ aa ∨ 64 ≤ i ∨ 64 ≤ f ∨ 64 ≤ c := by
  unfold hostEncode
  split
  case isTrue hfit => exact ⟨nofun, fun h => by omega⟩
  case isFalse hfit => exact ⟨fun _ => by omega, fun _ => rfl⟩

/-- On the fields of an instruction word, which fit by their types, the encoder is `pack`. -/
theorem hostEncode_eq_pack (a : Addr) (f c : Byte) :
    hostEncode a.sign.toNat a.aa.toNat a.i.toNat f.toNat c.toNat = .ok (pack a f c) :=
  hostEncode_ok_iff.mpr ⟨⟨Bool.toNat_lt a.sign, a.aa.isLt, a.i.isLt, f.isLt, c.isLt⟩, toNat_pack a f c⟩

/-! ### The step on a fetched word -/

theorem fetch_eq_fetchedWord {s : State} (h : s.pc.toNat < 4000) : s.fetch = .ok s.fetchedWord :=
  memRead_ok_iff.mpr ⟨h, rfl⟩

/-- A step whose word decodes runs the instruction with PC advanced (41 R131, R132). -/
theorem step_of_decode_ok {s : State} {i : Instr} (hpc : s.pc.toNat < 4000) (hi : decode s.fetchedWord = .ok i) :
    step s = exec i s.advancePc := by
  simp only [step, fetch_eq_fetchedWord hpc, hi]

/-- An index spec above 6 is the first check of a load to fail (41 R133, 60 R373). -/
theorem loadOp_of_invalid_index {r : Reg} {negative : Bool} {a : Addr} {f : Byte} {s : State} (h : 7 ≤ a.i.toNat) :
    loadOp r negative a f s = .error (.invalidIndexSpec a.i) :=
  loadOp_error_iff.mpr (.inl (fieldOperand_error_iff.mpr (.inl (effectiveAddress_error_iff.mpr (.inl ⟨h, rfl⟩)))))

/-- `LDA 0,7`: each of its fields fits its width, and its index spec is illegal (30 R73, R88). -/
def ldaInvalidIndex : Word := pack ⟨false, 0, 7⟩ 5 8

theorem decode_ldaInvalidIndex : decode ldaInvalidIndex = .ok (.lda ⟨false, 0, 7⟩ 5) := decode_pack _ _ _

/-- The word that the encoder accepts faults with its index spec when the machine runs it. -/
theorem step_ldaInvalidIndex {s : State} (hpc : s.pc.toNat < 4000) (hw : s.fetchedWord = ldaInvalidIndex) :
    step s = .fault (.raised (.invalidIndexSpec 7) s.advancePc) := by
  have hload : (Instr.lda ⟨false, 0, 7⟩ 5, Reg.a, false) ∈ loads ⟨false, 0, 7⟩ 5 := List.mem_cons_self
  rw [step_of_decode_ok hpc (hw ▸ decode_ldaInvalidIndex), exec_load hload,
    loadOp_of_invalid_index (by decide), conclude_error, raise]

/-- Settles O5, by the sentences of 30 R88: the word of fields that fit, the refusal of others, a word with an illegal
index spec that is encoded and faults only when run, and every word rebuilt from its fields (`pack_fields`). -/
theorem hostEncoderChecksWidths : Obligations.HostEncoderChecksWidths := by
  refine ⟨?fits, ?exceeds, ?widthsOnly, ?rebuilds⟩
  case fits =>
    intro s aa i f c hs haa hi hf hc
    cases hw : hostEncode s aa i f c with
    | ok w => exact ⟨w, rfl, (hostEncode_ok_iff.mp hw).2⟩
    | error e =>
      have hexceeds := hostEncode_error_iff.mp hw
      omega
  case exceeds => exact fun s aa i f c h => ⟨.encodeRangeError, hostEncode_error_iff.mpr h⟩
  case widthsOnly =>
    exact ⟨ldaInvalidIndex, hostEncode_eq_pack ⟨false, 0, 7⟩ 5 8, fun s hpc hw => step_ldaInvalidIndex hpc hw⟩
  case rebuilds =>
    exact fun w => (hostEncode_eq_pack (addrOf w) (fieldOf w) (opcodeOf w)).trans (congrArg _ (pack_fields w))

end Sys2Proof.Machine
end

section
/-! The magnitude of a word as five base-64 digits, which are its MIX bytes (00 R7, R8): how a digit reads through a
shift, a cut and a splice. The truncation of 40 R101 is a shift and a cut of digits; the embedding of 40 R103 is a
splice of them. -/

namespace Sys2Proof.Machine

/-! ### Base-64 digits of a number -/

/-- Digit `j` of `m` in base 64, from the right. -/
def digit (m j : Nat) : Nat := m / 64 ^ j % 64

theorem two_pow_six_mul (j : Nat) : 2 ^ (6 * j) = 64 ^ j := Nat.pow_mul 2 6 j

theorem digit_of_lt {m n j : Nat} (hm : m < 64 ^ n) (hj : n ≤ j) : digit m j = 0 := by
  have hlt : m < 64 ^ j := hm.trans_le (Nat.pow_le_pow_right (by decide) hj)
  rw [digit, Nat.div_eq_of_lt hlt, Nat.zero_mod]

/-- A shift to the right by `p` digits renumbers the digits. -/
theorem digit_div_pow (m p j : Nat) : digit (m / 64 ^ p) j = digit m (p + j) := by
  rw [digit, digit, Nat.div_div_eq_div_mul, ← Nat.pow_add]

/-- With `p` digits `lo` appended to `hi`, the digits below `p` are those of `lo` and the others those of `hi`. -/
theorem digit_append (hi : Nat) {lo p : Nat} (h : lo < 64 ^ p) (j : Nat) :
    digit (64 ^ p * hi + lo) j = if j < p then digit lo j else digit hi (j - p) := by
  split
  case isTrue hj =>
    obtain ⟨i, rfl⟩ := Nat.exists_eq_add_of_lt hj
    have hpow : 64 ^ (j + i + 1) * hi = 64 ^ j * (64 * (64 ^ i * hi)) := by ring
    rw [hpow, digit, Nat.mul_add_div (by positivity), Nat.mul_add_mod, digit]
  case isFalse hj =>
    obtain ⟨i, rfl⟩ := Nat.exists_eq_add_of_le (Nat.le_of_not_lt hj)
    rw [← digit_div_pow, Nat.mul_add_div (by positivity), Nat.div_eq_of_lt h, Nat.add_zero, Nat.add_sub_cancel_left]

/-- Cutting to the rightmost `n` digits clears the others. -/
theorem digit_mod_pow (m n j : Nat) : digit (m % 64 ^ n) j = if j < n then digit m j else 0 := by
  have hlt : m % 64 ^ n < 64 ^ n := Nat.mod_lt _ (by positivity)
  split
  case isTrue hj =>
    have happend := digit_append (m / 64 ^ n) hlt j
    rw [Nat.div_add_mod, if_pos hj] at happend
    exact happend.symm
  case isFalse hj => exact digit_of_lt hlt (Nat.le_of_not_lt hj)

/-! ### Splicing digits -/

/-- `m` with its `n` digits from position `p` replaced by the rightmost `n` digits of `s`. -/
def spliceDigits (p n s m : Nat) : Nat := 64 ^ p * (64 ^ n * (m / 64 ^ (p + n)) + s % 64 ^ n) + m % 64 ^ p

theorem append_lt {hi lo p n : Nat} (hhi : hi < 64 ^ n) (hlo : lo < 64 ^ p) : 64 ^ p * hi + lo < 64 ^ (p + n) :=
  calc 64 ^ p * hi + lo < 64 ^ p * (hi + 1) := by rw [Nat.mul_succ]; omega
    _ ≤ 64 ^ p * 64 ^ n := Nat.mul_le_mul_left _ hhi
    _ = 64 ^ (p + n) := (Nat.pow_add 64 p n).symm

/-- A splice within the `k` digits of a number stays within them. -/
theorem spliceDigits_lt {p n k m : Nat} (s : Nat) (hk : p + n ≤ k) (hm : m < 64 ^ k) :
    spliceDigits p n s m < 64 ^ k := by
  obtain ⟨l, rfl⟩ := Nat.exists_eq_add_of_le hk
  have hleft : m / 64 ^ (p + n) < 64 ^ l := Nat.div_lt_of_lt_mul (by rwa [← Nat.pow_add])
  have hcut : s % 64 ^ n < 64 ^ n := Nat.mod_lt _ (by positivity)
  have hright : m % 64 ^ p < 64 ^ p := Nat.mod_lt _ (by positivity)
  rw [Nat.add_assoc]
  exact append_lt (append_lt hleft hcut) hright

theorem digit_spliceDigits (p n s m j : Nat) :
    digit (spliceDigits p n s m) j = if p ≤ j ∧ j < p + n then digit s (j - p) else digit m j := by
  have hcut : s % 64 ^ n < 64 ^ n := Nat.mod_lt _ (by positivity)
  have hright : m % 64 ^ p < 64 ^ p := Nat.mod_lt _ (by positivity)
  rw [spliceDigits, digit_append _ hright]
  by_cases hj : j < p
  · rw [if_pos hj, digit_mod_pow, if_pos hj, if_neg (by omega)]
  · rw [if_neg hj, digit_append _ hcut]
    by_cases hn : j - p < n
    · rw [if_pos hn, digit_mod_pow, if_pos hn, if_pos (by omega)]
    · rw [if_neg hn, digit_div_pow, if_neg (by omega)]
      congr 1; omega

/-- Splicing back the digits that a shift and a cut select changes nothing. -/
theorem spliceDigits_select (p n m : Nat) : spliceDigits p n (m / 64 ^ p % 64 ^ n) m = m := by
  rw [spliceDigits, Nat.mod_mod, Nat.pow_add, ← Nat.div_div_eq_div_mul, Nat.div_add_mod, Nat.div_add_mod]

/-! ### The bytes of a word -/

/-- Byte `k` of a word is the digit of its magnitude that `5 - k` others follow; the sign is no part of it. -/
theorem byte_eq_digit (w : Word) {k : Nat} (hk1 : 1 ≤ k) (hk5 : k ≤ 5) : byte w k = digit (mag w) (5 - k) := by
  have hexp : 30 - 6 * k = 6 * (5 - k) := by omega
  have hmag : mag w = w.toNat % 64 ^ 5 := rfl
  rw [hmag, digit_mod_pow, if_pos (by omega), digit, byte, hexp, two_pow_six_mul]
  rfl

theorem byte_mkword (s : Bool) {m k : Nat} (hm : m < 2 ^ 30) (hk1 : 1 ≤ k) (hk5 : k ≤ 5) :
    byte (mkword s m) k = digit m (5 - k) := by
  rw [byte_eq_digit _ hk1 hk5, mag_mkword s hm]

end Sys2Proof.Machine
end

section
/-! The two field operations of the codec (40 R101, R103): the sign and each byte of their answers, and the two
statements. -/

namespace Sys2Proof.Machine

/-! ### Legal field specs -/

/-- The bounds of a legal field spec (40 R100). -/
theorem legalField_iff {f : Byte} : legalField f = true ↔ f.toNat / 8 ≤ f.toNat % 8 ∧ f.toNat % 8 ≤ 5 := by
  rw [legalField, Bool.and_eq_true, decide_eq_true_eq, decide_eq_true_eq]
  rfl

theorem legalField_of_mem {f : Byte}
    (h : f ∈ ([0, 1, 2, 3, 4, 5, 9, 10, 11, 12, 13, 18, 19, 20, 21, 27, 28, 29, 36, 37, 45] : List Byte)) :
    legalField f = true := by
  revert f; decide

/-- The bytes right of `R` and the selected ones are the bytes from `L'` on: `5 - R + n = 6 - L'`, at most five. -/
theorem selected_bytes {f : Byte} (h : legalField f = true) :
    5 - fieldR f + fieldBytes f = 6 - fieldFirst f ∧ 5 - fieldR f + fieldBytes f ≤ 5 := by
  obtain ⟨hLR, hR⟩ := legalField_iff.mp h
  simp only [fieldBytes, fieldFirst, fieldL, fieldR]
  omega

/-! ### The truncation -/

/-- The truncation of a legal field spec: the magnitude shifted by the bytes right of `R` and cut to `n` bytes. -/
theorem truncateToField_of_legal (v : Word) {f : Byte} (h : legalField f = true) :
    truncateToField v f = .ok (mkword (decide (fieldL f = 0) && sign v)
      (mag v / 64 ^ (5 - fieldR f) % 64 ^ fieldBytes f)) := by
  rw [truncateToField_ok_iff, ← two_pow_six_mul, ← two_pow_six_mul]
  exact ⟨h, rfl⟩

theorem sign_of_truncateToField {v w : Word} {f : Byte} (h : truncateToField v f = .ok w) :
    sign w = (decide (fieldL f = 0) && sign v) := by
  obtain ⟨hlegal, rfl⟩ := truncateToField_ok_iff.mp h
  exact sign_mkword _ (truncated_lt v hlegal)

theorem mag_of_truncateToField {v w : Word} {f : Byte} (h : truncateToField v f = .ok w) :
    mag w = mag v / 64 ^ (5 - fieldR f) % 64 ^ fieldBytes f := by
  obtain ⟨hlegal, rfl⟩ := truncateToField_ok_iff.mp h
  rw [mag_mkword _ (truncated_lt v hlegal), two_pow_six_mul, two_pow_six_mul]

/-- The rightmost `n` bytes of a truncation are the bytes up to `R` of the value; the bytes left of them are 0. -/
theorem byte_of_truncateToField {v w : Word} {f : Byte} (h : truncateToField v f = .ok w) {k : Nat} (hk1 : 1 ≤ k)
    (hk5 : k ≤ 5) : byte w k = if 5 < k + fieldBytes f then byte v (k + fieldR f - 5) else 0 := by
  have hlegal := (truncateToField_ok_iff.mp h).1
  have hR : fieldR f ≤ 5 := (legalField_iff.mp hlegal).2
  have hwidth := (selected_bytes hlegal).2
  rw [byte_eq_digit w hk1 hk5, mag_of_truncateToField h, digit_mod_pow, digit_div_pow]
  by_cases hk : 5 < k + fieldBytes f
  · rw [if_pos (by omega), if_pos hk, byte_eq_digit v (by omega) (by omega)]
    congr 1; omega
  · rw [if_neg (by omega), if_neg hk]

/-- Settles O7: of the legal field specs the sign and the bytes of the answer, of the others the refusal. -/
theorem truncateSelectsBytes : Obligations.TruncateSelectsBytes := by
  refine fun v f => ⟨?legal, ?illegal⟩
  case legal =>
    intro hf
    have hw := truncateToField_of_legal v (legalField_of_mem hf)
    refine ⟨_, hw, ?sign, fun k hk1 hk5 => byte_of_truncateToField hw hk1 hk5⟩
    rw [sign_of_truncateToField hw, fieldL]
    by_cases hL : f.toNat / 8 = 0
    · simp only [hL, decide_true, Bool.true_and, if_true]
    · simp only [hL, decide_false, Bool.false_and, if_false]
  case illegal =>
    intro hf
    exact truncateToField_error_iff.mpr ⟨Bool.eq_false_iff.mpr fun h => hf (legalField_cases h), rfl⟩

/-! ### The embedding -/

/-- The embedding of a legal field spec splices the rightmost `n` bytes of the source into the destination. -/
theorem embedFromField_ok_iff {src dst w : Word} {f : Byte} :
    embedFromField src dst f = .ok w ↔ legalField f = true ∧
      w = mkword (if fieldL f = 0 then sign src else sign dst)
        (spliceDigits (5 - fieldR f) (fieldBytes f) (mag src) (mag dst)) := by
  unfold embedFromField
  split
  case isTrue h =>
    have hsum : mag dst / 2 ^ (6 * (6 - fieldFirst f)) * 2 ^ (6 * (6 - fieldFirst f))
          + mag src % 2 ^ (6 * fieldBytes f) * 2 ^ (6 * (5 - fieldR f)) + mag dst % 2 ^ (6 * (5 - fieldR f))
        = spliceDigits (5 - fieldR f) (fieldBytes f) (mag src) (mag dst) := by
      simp only [two_pow_six_mul, spliceDigits, ← (selected_bytes h).1, Nat.pow_add]
      ring
    rw [hsum, Except.ok.injEq, eq_comm]
    exact (and_iff_right h).symm
  case isFalse h => exact ⟨nofun, fun hok => absurd hok.1 h⟩

/-- The spliced magnitude fits a word. -/
theorem embedded_lt (src dst : Word) {f : Byte} (h : legalField f = true) :
    spliceDigits (5 - fieldR f) (fieldBytes f) (mag src) (mag dst) < 2 ^ 30 :=
  spliceDigits_lt (k := 5) _ (selected_bytes h).2 (mag_lt dst)

theorem sign_of_embedFromField {src dst w : Word} {f : Byte} (h : embedFromField src dst f = .ok w) :
    sign w = if fieldL f = 0 then sign src else sign dst := by
  obtain ⟨hlegal, rfl⟩ := embedFromField_ok_iff.mp h
  exact sign_mkword _ (embedded_lt src dst hlegal)

/-- The bytes `L'..R` of an embedding are the rightmost bytes of the source, the others those of the destination. -/
theorem byte_of_embedFromField {src dst w : Word} {f : Byte} (h : embedFromField src dst f = .ok w) {k : Nat}
    (hk1 : 1 ≤ k) (hk5 : k ≤ 5) :
    byte w k = if fieldFirst f ≤ k ∧ k ≤ fieldR f then byte src (k + 5 - fieldR f) else byte dst k := by
  obtain ⟨hlegal, rfl⟩ := embedFromField_ok_iff.mp h
  have hR : fieldR f ≤ 5 := (legalField_iff.mp hlegal).2
  obtain ⟨hfirst, hwidth⟩ := selected_bytes hlegal
  rw [byte_mkword _ (embedded_lt src dst hlegal) hk1 hk5, digit_spliceDigits]
  by_cases hk : fieldFirst f ≤ k ∧ k ≤ fieldR f
  · rw [if_pos (by omega), if_pos hk, byte_eq_digit src (by omega) (by omega)]
    congr 1; omega
  · rw [if_neg (by omega), if_neg hk, byte_eq_digit dst hk1 hk5]

/-- The round trip of 40 R103: a word's own truncation, embedded into it, gives the word back. -/
theorem embedFromField_of_truncateToField {w t : Word} {f : Byte} (h : truncateToField w f = .ok t) :
    embedFromField t w f = .ok w := by
  have hsign : (if fieldL f = 0 then sign t else sign w) = sign w := by
    rw [sign_of_truncateToField h]
    by_cases hL : fieldL f = 0 <;> simp only [hL, decide_true, Bool.true_and, if_true, if_false]
  rw [embedFromField_ok_iff, hsign, mag_of_truncateToField h, spliceDigits_select, mkword_sign_mag]
  exact ⟨(truncateToField_ok_iff.mp h).1, rfl⟩

/-- Settles O8: of the legal field specs the sign and the bytes of the answer, of the others the refusal, and the round
trip. -/
theorem embedReplacesBytes : Obligations.EmbedReplacesBytes := by
  refine fun src dst f => ⟨?legal, ?illegal, fun _ => embedFromField_of_truncateToField⟩
  case legal =>
    intro hLR hR
    have hw := embedFromField_ok_iff (src := src) (dst := dst).mpr ⟨legalField_iff.mpr ⟨hLR, hR⟩, rfl⟩
    exact ⟨_, hw, sign_of_embedFromField hw, fun k hk1 hk5 => byte_of_embedFromField hw hk1 hk5⟩
  case illegal =>
    intro hf
    have hillegal : ¬ legalField f = true := fun h => by have := legalField_iff.mp h; omega
    exact embedFromField_error_iff.mpr ⟨Bool.eq_false_iff.mpr hillegal, rfl⟩

end Sys2Proof.Machine
end

section
/-! The sign and the width conversions (40 R105 to R108), and their statement. -/

namespace Sys2Proof.Machine

/-- The magnitude has 12 bits iff bytes 1 to 3 are zero: the condition of 40 R107. -/
theorem mag_lt_iff_high_bytes_zero (w : Word) :
    mag w < 2 ^ 12 ↔ byte w 1 = 0 ∧ byte w 2 = 0 ∧ byte w 3 = 0 := by
  unfold mag byte
  omega

/-- Bytes 4 and 5 hold the rightmost 12 bits. -/
theorem low_bytes_eq (w : Word) : 64 * byte w 4 + byte w 5 = w.toNat % 2 ^ 12 := by
  unfold byte
  omega

/-- Of a magnitude with 12 bits the rightmost 12 bits of the word are the whole. -/
theorem toNat_mod_of_mag_lt {w : Word} (h : mag w < 2 ^ 12) : w.toNat % 2 ^ 12 = mag w := by
  unfold mag at h ⊢
  omega

theorem mag_widen_lt (n : Narrow) : mag (widen n) < 2 ^ 12 := (mag_widen n).symm ▸ n.mag.isLt

/-- Below 2^12 a word narrows, to its sign and its rightmost 12 bits. -/
theorem narrow_of_mag_lt {w : Word} (h : mag w < 2 ^ 12) :
    ∃ n, narrow w = .ok n ∧ n.sign = sign w ∧ n.mag.toNat = w.toNat % 2 ^ 12 := by
  cases hn : narrow w with
  | ok n =>
    have hwiden := narrow_ok_iff.mp hn
    exact ⟨n, rfl, hwiden ▸ (sign_widen n).symm, by rw [toNat_mod_of_mag_lt h, ← hwiden, mag_widen]⟩
  | error c => exact absurd (narrow_error_iff.mp hn).1 (Nat.not_le.mpr h)

/-- Settles O9, one clause for each of the four functions and one for `negate` of the two zeros. -/
theorem signAndWidthConversions : Obligations.SignAndWidthConversions := by
  refine ⟨fun v => ⟨sign_negate v, mag_negate v, rfl⟩, ⟨?plusZero, ?minusZero⟩, fun n => ⟨rfl, ?widen⟩,
    fun w => ⟨?narrows, ?refuses⟩, fun w => ⟨rfl, toInt_bounds w⟩⟩
  case plusZero => decide
  case minusZero => decide
  case widen =>
    obtain ⟨h1, h2, h3⟩ := (mag_lt_iff_high_bytes_zero _).mp (mag_widen_lt n)
    exact ⟨h1, h2, h3, by rw [low_bytes_eq, toNat_mod_of_mag_lt (mag_widen_lt n), mag_widen]⟩
  case narrows => exact fun h => narrow_of_mag_lt ((mag_lt_iff_high_bytes_zero w).mpr h)
  case refuses =>
    intro h
    rw [← mag_lt_iff_high_bytes_zero, Nat.not_lt] at h
    exact narrow_error_iff.mpr ⟨h, rfl⟩

end Sys2Proof.Machine
end

section
/-! The fetch and the indexed address (41 R130, R134, R135), with their statements. -/

namespace Sys2Proof.Machine

/-! ### The fetch -/

/-- A fetch fault is the whole step: PC is not advanced (41 R130). -/
theorem step_of_fetch_error {s : State} {c : FaultCause} (h : s.fetch = .error c) : step s = .fault (.raised c s) := by
  simp only [step, h, raise]

/-- Settles O13: below 4000 the fetch reads Mem[PC]; from 4000 on the memory read is refused, and the step with it. -/
theorem fetchFaultChangesNothing : Obligations.FetchFaultChangesNothing :=
  fun _ => ⟨fetch_eq_fetchedWord, fun hpc => step_of_fetch_error (memRead_error_iff.mpr ⟨hpc, rfl⟩)⟩

/-! ### The indexed and the effective address -/

/-- An indexed address that is not negative is the effective address (41 R135). -/
theorem effectiveAddress_of_nonneg {a : Addr} {s : State} {m : Int} (hm : indexedAddress a s = .ok m) (h : 0 ≤ m) :
    effectiveAddress a s = .ok m.toNat := by
  rw [effectiveAddress_ok_iff, Int.toNat_of_nonneg h, hm]

/-- A negative indexed address is refused (41 R135). -/
theorem effectiveAddress_of_neg {a : Addr} {s : State} {m : Int} (hm : indexedAddress a s = .ok m) (h : m < 0) :
    effectiveAddress a s = .error (.negativeEffectiveAddress m) :=
  effectiveAddress_error_iff.mpr (.inr ⟨m, hm, h, rfl⟩)

/-- Settles O25, from the indexed address, its bounds, and the two cases of its sign. -/
theorem effectiveAddress_spec : Obligations.EffectiveAddress := by
  intro a s v hv
  have hm : indexedAddress a s = .ok (aval a + v) := indexedAddress_ok_iff.mpr ⟨v, hv, rfl⟩
  obtain ⟨hlo, hhi⟩ := indexedAddress_bounds hm
  refine ⟨rfl, hm, hlo, hhi, effectiveAddress_of_neg hm, ?nonneg, ?minusZero, fun _ => rfl⟩
  case nonneg =>
    intro h
    have he := effectiveAddress_of_nonneg hm h
    exact ⟨_, he, Int.toNat_of_nonneg h, effectiveAddress_le he⟩
  case minusZero =>
    rintro rfl
    exact effectiveAddress_ok_iff.mpr rfl

end Sys2Proof.Machine
end

section
/-! PC across a step (41 R131): only a jump that is taken writes it after the advance. One lemma per handler, then the
two cases of `exec`, a handler that leaves PC alone or the jump handler, and the statement. -/

namespace Sys2Proof.Machine

/-! ### The handlers that leave PC alone -/

theorem loadOp_pc {r : Reg} {negative : Bool} {a : Addr} {f : Byte} {s t : State}
    (h : loadOp r negative a f s = .ok t) : t.pc = s.pc := by
  obtain ⟨v, -, hwrite⟩ := loadOp_ok_iff.mp h
  obtain ⟨-, -, ⟨hpc, -⟩, -⟩ := writeReg_ok hwrite
  exact hpc

theorem storeOp_pc {v : Word} {a : Addr} {f : Byte} {s t : State} (h : storeOp v a f s = .ok t) : t.pc = s.pc := by
  obtain ⟨e, new, -, -, -, rfl⟩ := storeOp_ok_iff.mp h
  exact State.setMem_pc ..

theorem signedAdd_pc {r : Reg} {v : Word} {s t : State} (h : signedAdd r v s = .ok t) : t.pc = s.pc := by
  obtain ⟨-, hpc, -⟩ := signedAdd_ok h
  exact hpc

theorem addOp_pc {subtract : Bool} {a : Addr} {f : Byte} {s t : State} (h : addOp subtract a f s = .ok t) :
    t.pc = s.pc := by
  obtain ⟨v, -, hadd⟩ := addOp_ok_iff.mp h
  exact signedAdd_pc hadd

theorem mulOp_pc {a : Addr} {f : Byte} {s t : State} (h : mulOp a f s = .ok t) : t.pc = s.pc := by
  obtain ⟨v, -, rfl⟩ := mulOp_ok_iff.mp h
  rw [multiply, State.setX_pc, State.setA_pc]

theorem divOp_pc {a : Addr} {f : Byte} {s t : State} (h : divOp a f s = .ok t) : t.pc = s.pc := by
  obtain ⟨v, -, hdiv⟩ := divOp_ok_iff.mp h
  obtain ⟨-, hpc, -⟩ := divide_ok hdiv
  exact hpc

theorem addrXferOp_pc {r : Reg} {negateValue increase : Bool} {a : Addr} {s t : State}
    (h : addrXferOp r negateValue increase a s = .ok t) : t.pc = s.pc := by
  obtain ⟨m, -, hres⟩ := addrXferOp_ok_iff.mp h
  cases increase with
  | true => exact signedAdd_pc hres
  | false =>
    obtain ⟨-, -, ⟨hpc, -⟩, -⟩ := writeReg_ok hres
    exact hpc

theorem compareOp_pc {r : Reg} {a : Addr} {f : Byte} {s t : State} (h : compareOp r a f s = .ok t) :
    t.pc = s.pc := by
  obtain ⟨vm, vr, -, -, rfl⟩ := compareOp_ok_iff.mp h
  exact State.setCi_pc ..

theorem setPairAX_pc (s : State) (v : Nat) : (s.setPairAX v).pc = s.pc := by
  rw [State.setPairAX, State.setX_pc, State.setA_pc]

/-- A shift writes A or the pair A:X (48 R340). -/
theorem shiftOf_pc (i : Instr) (n : Nat) (s : State) : (shiftOf i n s).pc = s.pc := by
  unfold shiftOf
  split
  case h_1 | h_2 => exact State.setA_pc ..
  all_goals exact setPairAX_pc ..

theorem shiftOp_pc {i : Instr} {a : Addr} {s t : State} (h : shiftOp (shiftOf i) a s = .ok t) : t.pc = s.pc := by
  obtain ⟨n, -, rfl⟩ := shiftOp_ok_iff.mp h
  exact shiftOf_pc i n s

theorem moveOp_pc {a : Addr} {count : Byte} {s t : State} (h : moveOp a count s = .ok t) : t.pc = s.pc := by
  obtain ⟨src, -, ⟨-, rfl⟩ | ⟨-, -, -, -, hwrite⟩⟩ := moveOp_ok_iff.mp h
  · rfl
  · obtain ⟨-, -, ⟨hpc, -⟩, -⟩ := writeReg_ok hwrite
    rw [hpc, State.setMem_pc]

/-! ### The jump handler -/

/-- A completed jump leaves PC or puts the effective address there, which 13 bits hold (10 R30). -/
theorem jumpOp_next_pc {r : Option Reg} {sub : Nat} {f : Byte} {a : Addr} {s u : State}
    (h : jumpOp r sub f a s = .next u) : u.pc = s.pc ∨ effectiveAddress a s = .ok u.pc.toNat := by
  obtain ⟨e, t, taken, he, ht, -, rfl⟩ := jumpOp_next_iff.mp h
  cases taken with
  | true =>
    have hle : e ≤ 8190 := effectiveAddress_le he
    have hpc : (BitVec.ofNat 13 e).toNat = e := Nat.mod_eq_of_lt (by omega)
    right
    rw [if_pos rfl, State.setPc_pc, hpc, he]
  | false =>
    obtain ⟨-, ⟨hpc, -⟩, -⟩ := saveReturn_ok ht
    left
    rw [if_neg Bool.false_ne_true, clearOverflow_eq, State.setOt_pc, hpc]

/-- A completed jump other than sub-mode 1 has saved PC in J, taken or not (47 R271). -/
theorem jumpOp_next_readReg_j {r : Option Reg} {sub : Nat} {f : Byte} {a : Addr} {s u : State}
    (h : jumpOp r sub f a s = .next u) (hsub : sub ≠ 1) : u.readReg .j = mkword false s.pc.toNat := by
  obtain ⟨e, t, taken, -, ht, -, rfl⟩ := jumpOp_next_iff.mp h
  obtain ⟨-, -, -, -, hj⟩ := saveReturn_ok ht
  rw [clearOverflow_eq]
  cases taken with
  | true => rw [if_pos rfl, State.readReg_setPc, State.readReg_setOt, hj hsub]
  | false => rw [if_neg Bool.false_ne_true, State.readReg_setOt, hj hsub]

/-- A faulting jump leaves PC, also where it has written J (60 R372). -/
theorem jumpOp_fault_pc {r : Option Reg} {sub : Nat} {f : Byte} {a : Addr} {s : State} {q : Fault}
    (h : jumpOp r sub f a s = .fault q) : q.resume.pc = s.pc := by
  obtain ⟨c, -, rfl⟩ | ⟨t, ht, -, rfl⟩ := jumpOp_fault h
  · rfl
  · obtain ⟨-, ⟨hpc, -⟩, -⟩ := saveReturn_ok ht
    exact hpc

/-! ### All instructions -/

/-- An instruction is a jump, or it ends in a handler that leaves PC alone. -/
theorem exec_keeps_pc_or_jump (i : Instr) (s : State) :
    (∃ x, exec i s = conclude s x ∧ ∀ t, x = .ok t → t.pc = s.pc) ∨
      ∃ a r sub f, i ∈ jumps a ∧ exec i s = jumpOp r sub f a s := by
  generalize ho : exec i s = o
  cases ho ▸ exec_shape i s with
  | load h => exact .inl ⟨_, rfl, fun _ => loadOp_pc⟩
  | store h => exact .inl ⟨_, rfl, fun _ => storeOp_pc⟩
  | add => exact .inl ⟨_, rfl, fun _ => addOp_pc⟩
  | sub => exact .inl ⟨_, rfl, fun _ => addOp_pc⟩
  | mul => exact .inl ⟨_, rfl, fun _ => mulOp_pc⟩
  | div => exact .inl ⟨_, rfl, fun _ => divOp_pc⟩
  | enter h => exact .inl ⟨_, rfl, fun _ => addrXferOp_pc⟩
  | increase h => exact .inl ⟨_, rfl, fun _ => addrXferOp_pc⟩
  | compare h => exact .inl ⟨_, rfl, fun _ => compareOp_pc⟩
  | shift h => exact .inl ⟨_, rfl, fun _ => shiftOp_pc⟩
  | move => exact .inl ⟨_, rfl, fun _ => moveOp_pc⟩
  | unimplemented h => exact .inl ⟨.error _, rfl, nofun⟩
  | jump r sub f h => exact .inr ⟨_, r, sub, f, h, rfl⟩

theorem exec_fault_pc {i : Instr} {s : State} {q : Fault} (h : exec i s = .fault q) : q.resume.pc = s.pc := by
  obtain ⟨x, hx, -⟩ | ⟨a, r, sub, f, -, hx⟩ := exec_keeps_pc_or_jump i s
  · obtain ⟨c, -, rfl⟩ := conclude_eq_fault.mp (hx ▸ h)
    rfl
  · exact jumpOp_fault_pc (hx ▸ h)

/-- An instruction that is no jump does not branch. -/
theorem exec_next_pc_of_not_jump {i : Instr} {s t : State} (hi : ∀ a, i ∉ jumps a) (h : exec i s = .next t) :
    t.pc = s.pc := by
  obtain ⟨x, hx, hpc⟩ | ⟨a, r, sub, f, hj, -⟩ := exec_keeps_pc_or_jump i s
  · exact hpc t (conclude_eq_next.mp (hx ▸ h))
  · exact absurd hj (hi a)

/-- A jump leaves PC or branches to its effective address, and all but JSJ save PC in J (47 R271, R276). -/
theorem exec_next_of_jump {i : Instr} {a : Addr} {s t : State} (hi : i ∈ jumps a) (h : exec i s = .next t) :
    (t.pc = s.pc ∨ effectiveAddress a s = .ok t.pc.toNat) ∧
      (i ≠ .jsj a → t.readReg .j = mkword false s.pc.toNat) := by
  obtain ⟨r, sub, f, -, hjsj, -, hx⟩ := exec_jump hi
  rw [hx s] at h
  exact ⟨jumpOp_next_pc h, fun hne => jumpOp_next_readReg_j h (mt hjsj.mp hne)⟩

/-! ### The step -/

/-- A step whose word is no instruction handles it with PC advanced (41 R131, R132). -/
theorem step_of_decode_error {s : State} {q : Reject} (hpc : s.pc.toNat < 4000)
    (hq : decode s.fetchedWord = .error q) : step s = raiseReject q s.advancePc := by
  simp only [step, fetch_eq_fetchedWord hpc, hq]

theorem advancePc_pc_toNat {s : State} (h : s.pc.toNat < 4000) : s.advancePc.pc.toNat = s.pc.toNat + 1 := by
  rw [State.advancePc_pc]
  bv_omega

theorem raiseReject_fault_pc {j : Reject} {s : State} {q : Fault} (h : raiseReject j s = .fault q) :
    q.resume.pc = s.pc := by
  cases j with
  | invalidFieldSpec f => cases h; rfl
  | illegalJump c f a => exact jumpOp_fault_pc h

/-- Every fault after the fetch leaves PC at the next address (41 R131). -/
theorem step_fault_pc {s : State} {q : Fault} (hpc : s.pc.toNat < 4000) (h : step s = .fault q) :
    q.resume.pc = s.advancePc.pc := by
  cases hd : decode s.fetchedWord with
  | ok i => exact exec_fault_pc (step_of_decode_ok hpc hd ▸ h)
  | error j => exact raiseReject_fault_pc (step_of_decode_error hpc hd ▸ h)

/-- Settles O15: in the state with PC advanced, what a fault, an instruction that is no jump, and a jump do to PC. -/
theorem programCounterAfterStep : Obligations.ProgramCounterAfterStep := by
  intro s hpc
  have hadvance := advancePc_pc_toNat hpc
  refine ⟨hpc, fun q hq => by rw [step_fault_pc hpc hq, hadvance], fun i t hi ht => ?_⟩
  have hexec : exec i s.advancePc = .next t := step_of_decode_ok hpc hi ▸ ht
  refine ⟨fun hj => by rw [exec_next_pc_of_not_jump hj hexec, hadvance], fun a hj => ?_⟩
  obtain ⟨hbranch, hsave⟩ := exec_next_of_jump hj hexec
  rw [← hadvance]
  exact ⟨hbranch.imp_left (congrArg BitVec.toNat), hsave⟩

end Sys2Proof.Machine
end

section
/-! The loads (42 R150, R151): the word a load writes, when the write succeeds, what `exec` answers in each case, and
the two statements. -/

namespace Sys2Proof.Machine

/-! ### The word a load writes -/

/-- Negation on request keeps the magnitude, so the narrowing check does not depend on it (40 R105). -/
theorem mag_ite_negate (negative : Bool) (v : Word) : mag (if negative then negate v else v) = mag v := by
  cases negative with
  | false => rfl
  | true => exact mag_negate v

theorem sign_ite_negate (negative : Bool) (v : Word) :
    sign (if negative then negate v else v) = Bool.xor (sign v) negative := by
  cases negative with
  | false => exact (Bool.xor_false _).symm
  | true => exact (sign_negate v).trans (Bool.xor_true _).symm

theorem mag_lt_iff_forall_high_bytes (w : Word) : mag w < 2 ^ 12 ↔ ∀ j, 1 ≤ j → j ≤ 3 → byte w j = 0 := by
  rw [mag_lt_iff_high_bytes_zero]
  constructor
  · rintro ⟨h1, h2, h3⟩ j hj1 hj3
    obtain rfl | rfl | rfl : j = 1 ∨ j = 2 ∨ j = 3 := by omega
    exacts [h1, h2, h3]
  · exact fun h => ⟨h 1 (by decide) (by decide), h 2 (by decide) (by decide), h 3 (by decide) (by decide)⟩

/-- A truncation has 12 bits iff the selected bytes other than the rightmost two are zero: byte `j` of it is byte
`j + R - 5` of the value, so its bytes 1 to 3 are those of the field up to `R - 2` (42 R151). -/
theorem mag_truncated_lt_iff {v w : Word} {f : Byte} (h : truncateToField v f = .ok w) :
    mag w < 2 ^ 12 ↔ ∀ k, fieldFirst f ≤ k → k + 2 ≤ fieldR f → byte v k = 0 := by
  have hlegal := (truncateToField_ok_iff.mp h).1
  have hR : fieldR f ≤ 5 := (legalField_iff.mp hlegal).2
  obtain ⟨hfirst, -⟩ := selected_bytes hlegal
  have hL : 1 ≤ fieldFirst f := Nat.le_max_right _ _
  rw [mag_lt_iff_forall_high_bytes]
  constructor
  · intro hz k hk hk2
    have hbyte := byte_of_truncateToField h (k := k + 5 - fieldR f) (by omega) (by omega)
    rw [if_pos (by omega), show k + 5 - fieldR f + fieldR f - 5 = k by omega] at hbyte
    exact hbyte.symm.trans (hz _ (by omega) (by omega))
  · intro hz j hj1 hj3
    rw [byte_of_truncateToField h hj1 (by omega)]
    split
    case isTrue => exact hz _ (by omega) (by omega)
    case isFalse => rfl

/-! ### The register write -/

/-- A register write succeeds iff the register is wide or the magnitude has 12 bits (40 R107). -/
theorem writeReg_succeeds_iff {s : State} {r : Reg} {w : Word} :
    (∃ t, s.writeReg r w = .ok t) ↔ r.wide = true ∨ mag w < 2 ^ 12 := by
  refine ⟨?_, writeReg_succeeds⟩
  rintro ⟨t, ht⟩
  by_contra hfits
  obtain ⟨hnarrow, hmag⟩ := not_or.mp hfits
  have herror := writeReg_error_iff (s := s).mpr ⟨Bool.eq_false_iff.mpr hnarrow, Nat.not_lt.mp hmag, rfl⟩
  cases ht.symm.trans herror

/-! ### What a load answers -/

theorem conclude_eq_raised {s : State} {x : Except FaultCause State} {c : FaultCause} :
    conclude s x = .fault (.raised c s) ↔ x = .error c := by
  rw [conclude_eq_fault]
  constructor
  · rintro ⟨c', hx, hc⟩
    cases hc
    exact hx
  · exact fun hx => ⟨c, hx, rfl⟩

section
variable {a : Addr} {f : Byte} {i : Instr} {r : Reg} {negative : Bool} {s : State}

theorem exec_load_next_iff {v : Word} {t : State} (hi : (i, r, negative) ∈ loads a f)
    (hv : fieldOperand a f s = .ok v) :
    exec i s = .next t ↔ s.writeReg r (if negative then negate v else v) = .ok t := by
  rw [exec_load hi, conclude_eq_next, loadOp_ok_iff]
  simp only [hv, Except.ok.injEq, exists_eq_left']

/-- The operand's checks are a load's first. -/
theorem exec_load_of_operand_error {c : FaultCause} (hi : (i, r, negative) ∈ loads a f)
    (hc : fieldOperand a f s = .error c) : exec i s = .fault (.raised c s) := by
  rw [exec_load hi, conclude_eq_raised, loadOp_error_iff]
  exact .inl hc

/-- The narrowing is a load's last check. -/
theorem exec_load_of_wide_value {v : Word} (hi : (i, r, negative) ∈ loads a f) (hv : fieldOperand a f s = .ok v)
    (hr : r.wide = false) (hm : 2 ^ 12 ≤ mag v) :
    exec i s = .fault (.raised (.registerNarrowingError (if negative then negate v else v)) s) := by
  rw [exec_load hi, conclude_eq_raised, loadOp_error_iff]
  exact .inr ⟨v, hv, writeReg_error_iff.mpr ⟨hr, (mag_ite_negate negative v).symm ▸ hm, rfl⟩⟩

theorem exec_load_completes_iff {v : Word} (hi : (i, r, negative) ∈ loads a f) (hv : fieldOperand a f s = .ok v) :
    (∃ t, exec i s = .next t) ↔ r.wide = true ∨ mag v < 2 ^ 12 := by
  simp only [exec_load_next_iff hi hv, writeReg_succeeds_iff, mag_ite_negate]

/-- The effect and the frame of a load that completes. -/
theorem exec_load_effect {v : Word} {t : State} (hi : (i, r, negative) ∈ loads a f) (hv : fieldOperand a f s = .ok v)
    (ht : exec i s = .next t) :
    t.readReg r = (if negative then negate v else v) ∧ sameRegsBut [r] s t ∧ sameBeyondRegs s t := by
  obtain ⟨hvalue, hregs, hbeyond, -⟩ := writeReg_ok ((exec_load_next_iff hi hv).mp ht)
  exact ⟨hvalue, hregs, hbeyond⟩

end

/-! ### The statements -/

/-- Settles O26: the checks of the operand in their order, then the narrowing, then the write. -/
theorem loadRule : Obligations.LoadRule := by
  intro a f i r negative s hi
  refine ⟨?address, fun e he => ⟨?range, fun hlt => ⟨?field, ?value⟩⟩⟩
  case address => exact fun c hc => exec_load_of_operand_error hi (fieldOperand_error_iff.mpr (.inl hc))
  case range =>
    intro hge
    exact exec_load_of_operand_error hi (fieldOperand_error_iff.mpr (.inr ⟨e, he, .inl ⟨hge, rfl⟩⟩))
  case field =>
    intro c hc
    have hrefused := truncateToField_error_iff.mp hc
    exact exec_load_of_operand_error hi (fieldOperand_error_iff.mpr (.inr ⟨e, he, .inr ⟨hlt, hrefused⟩⟩))
  case value =>
    intro v hv
    have hop : fieldOperand a f s = .ok v := fieldOperand_ok_iff.mpr ⟨e, he, hlt, hv⟩
    refine ⟨exec_load_of_wide_value hi hop, fun hfits => ?_⟩
    obtain ⟨t, ht⟩ := (exec_load_completes_iff hi hop).mpr hfits
    exact ⟨t, ht, exec_load_effect hi hop ht⟩

/-- Settles O27: a load into an index register completes iff the truncation has 12 bits, which is the condition on the
bytes; of a field of at most two bytes no byte is left to be zero. -/
theorem narrowLoadNeedsZeroHighBytes : Obligations.NarrowLoadNeedsZeroHighBytes := by
  intro a f i r negative s e hi hr he hlt hlegal
  have hv := truncateToField_of_legal (s.mem.read e) hlegal
  have hop := fieldOperand_ok_iff.mpr ⟨e, he, hlt, hv⟩
  have hcompletes : (∃ t, exec i s = .next t) ↔
      ∀ k, fieldFirst f ≤ k → k + 2 ≤ fieldR f → byte (s.mem.read e) k = 0 := by
    rw [exec_load_completes_iff hi hop, hr, mag_truncated_lt_iff hv]
    exact or_iff_right Bool.false_ne_true
  refine ⟨hcompletes, fun hshort => hcompletes.mpr fun k hk hk2 => ?twoBytes, fun t ht => ?sign⟩
  case twoBytes =>
    simp only [fieldFirst, fieldL, fieldR] at hk hk2
    omega
  case sign =>
    obtain ⟨hvalue, -⟩ := exec_load_effect hi hop ht
    rw [hvalue, sign_ite_negate, sign_of_truncateToField hv, fieldL, Bool.if_false_right]

end Sys2Proof.Machine
end

section
/-! The stores (43 R170): what `exec` answers when a check fails and when none does, the frame of the one memory write,
and the statement. -/

namespace Sys2Proof.Machine

/-! ### The one memory write -/

/-- A memory write changes no word but the one at its address, no register, no flag and no field of the model's own. -/
theorem setMem_write_frame (s : State) (e : Nat) (w : Word) :
    sameMemBut e s (s.setMem (s.mem.write e w)) ∧ sameRegsBut [] s (s.setMem (s.mem.write e w)) ∧
      (s.setMem (s.mem.write e w)).pc = s.pc ∧ sameFlags s (s.setMem (s.mem.write e w)) ∧
      sameModel s (s.setMem (s.mem.write e w)) :=
  ⟨fun _ hb => Memory.read_write_other _ _ hb, fun r _ => State.readReg_setMem _ _ r, State.setMem_pc ..,
    ⟨State.setMem_ot .., State.setMem_ci ..⟩, ⟨State.setMem_zeroSumSign .., State.setMem_draws ..⟩⟩

/-- In a canonical memory the written word is what the address then reads (20 R52). -/
theorem setMem_write_read {s : State} (hwf : s.mem.wf = true) (e : Nat) (w : Word) :
    (s.setMem (s.mem.write e w)).mem.read e = w := by
  rw [State.setMem_mem, Memory.read_write_same hwf]

/-! ### What a store answers -/

section
variable {a : Addr} {f : Byte} {i : Instr} {source : Option Reg} {s : State}

/-- The faults of a store do not depend on the word it stores (43 R170). -/
theorem exec_store_raised_iff {c : FaultCause} (hi : (i, source) ∈ stores a f) :
    exec i s = .fault (.raised c s) ↔
      effectiveAddress a s = .error c ∨
        ∃ e, effectiveAddress a s = .ok e ∧
          ((4000 ≤ e ∧ c = .invalidAddress (.word e)) ∨
            (e < 4000 ∧ legalField f = false ∧ c = .invalidFieldSpec f)) := by
  rw [exec_store hi, conclude_eq_raised, storeOp_error_iff]

theorem exec_store_next_iff {t : State} (hi : (i, source) ∈ stores a f) :
    exec i s = .next t ↔
      ∃ e new, effectiveAddress a s = .ok e ∧ e < 4000 ∧
        embedFromField (sourceWord s source) (s.mem.read e) f = .ok new ∧ t = s.setMem (s.mem.write e new) := by
  rw [exec_store hi, conclude_eq_next, storeOp_ok_iff]

end

/-! ### The statement -/

/-- Settles O28: the checks of the address, of memory's bound and of the field spec in their order, then the write. -/
theorem storeRule : Obligations.StoreRule := by
  intro a f i source s hwf hi
  refine ⟨?address, fun e he => ⟨?range, fun hlt => ⟨?field, ?write⟩⟩⟩
  case address => exact fun c hc => (exec_store_raised_iff hi).mpr (.inl hc)
  case range => exact fun hge => (exec_store_raised_iff hi).mpr (.inr ⟨e, he, .inl ⟨hge, rfl⟩⟩)
  case field =>
    intro c hc
    have hrefused := embedFromField_error_iff.mp hc
    exact (exec_store_raised_iff hi).mpr (.inr ⟨e, he, .inr ⟨hlt, hrefused⟩⟩)
  case write =>
    intro w hw
    exact ⟨s.setMem (s.mem.write e w), (exec_store_next_iff hi).mpr ⟨e, w, he, hlt, hw, rfl⟩,
      setMem_write_read hwf e w, setMem_write_frame s e w⟩

end Sys2Proof.Machine
end

section
/-! Address transfer (45 R211, R213): the word entered or added, as a word and as a signed integer; what `exec` does
once M is known; a signed addition reads its operand as an integer only, so the sign of a zero one is lost. -/

namespace Sys2Proof.Machine

/-! ### The word of an indexed address -/

theorem natAbs_lt_of_indexedAddress {a : Addr} {s : State} {m : Int} (hm : indexedAddress a s = .ok m) :
    m.natAbs < 2 ^ 30 := by
  obtain ⟨hlo, hhi⟩ := indexedAddress_bounds hm
  omega

/-- The word has the magnitude of M, and the sign of M or for M = 0 of the instruction, then negated on request. -/
theorem addressWord_eq_mkword (a : Addr) (negateValue : Bool) {m : Int} (hm : m.natAbs < 2 ^ 30) :
    addressWord a negateValue m =
      mkword (Bool.xor (if m = 0 then a.sign else decide (m < 0)) negateValue) m.natAbs := by
  obtain ⟨hmag, hsign, -⟩ := addressWord_spec a negateValue hm
  exact word_ext (hsign.trans (sign_mkword _ hm).symm) (hmag.trans (mag_mkword _ hm).symm)

/-- As a signed integer the word is M or -M, whatever the instruction's sign. -/
theorem toInt_addressWord {a : Addr} {s : State} {m : Int} (negateValue : Bool) (hm : indexedAddress a s = .ok m) :
    toInt (addressWord a negateValue m) = if negateValue then -m else m := by
  obtain ⟨-, -, hvalue⟩ := addressWord_spec a negateValue (natAbs_lt_of_indexedAddress hm)
  exact hvalue

/-! ### The signed addition -/

/-- Words of one signed value are added alike, `+0` and `-0` among them (45 R211). -/
theorem signedAdd_congr {v w : Word} (r : Reg) (s : State) (h : toInt v = toInt w) :
    signedAdd r v s = signedAdd r w s := by
  cases hr : r.wide with
  | true => rw [signedAdd_wide hr, signedAdd_wide hr, h]
  | false => rw [signedAdd_narrow hr, signedAdd_narrow hr, h]

/-! ### What an address transfer answers -/

section
variable {a : Addr} {i : Instr} {r : Reg} {negateValue : Bool} {s : State} {m : Int}

theorem addrXferOp_of_indexedAddress (increase : Bool) (hm : indexedAddress a s = .ok m) :
    addrXferOp r negateValue increase a s =
      if increase then signedAdd r (addressWord a negateValue m) s
      else s.writeReg r (addressWord a negateValue m) := by
  rw [addrXferOp, hm]
  rfl

/-- An enter is one register write. -/
theorem exec_enter_of_indexedAddress (hi : (i, r, negateValue) ∈ enters a) (hm : indexedAddress a s = .ok m) :
    exec i s = conclude s (s.writeReg r (addressWord a negateValue m)) := by
  rw [exec_enter hi, addrXferOp_of_indexedAddress false hm, if_neg Bool.false_ne_true]

/-- An increase is one signed addition. -/
theorem exec_increase_of_indexedAddress (hi : (i, r, negateValue) ∈ increases a) (hm : indexedAddress a s = .ok m) :
    exec i s = conclude s (signedAdd r (addressWord a negateValue m) s) := by
  rw [exec_increase hi, addrXferOp_of_indexedAddress true hm, if_pos rfl]

/-- Increases of one register by one M do the same, however their address fields give M. -/
theorem exec_increase_congr {b : Addr} {j : Instr} (hi : (i, r, negateValue) ∈ increases a)
    (hj : (j, r, negateValue) ∈ increases b) (ha : indexedAddress a s = .ok m) (hb : indexedAddress b s = .ok m) :
    exec i s = exec j s := by
  have hvalue : toInt (addressWord a negateValue m) = toInt (addressWord b negateValue m) :=
    (toInt_addressWord negateValue ha).trans (toInt_addressWord negateValue hb).symm
  rw [exec_increase_of_indexedAddress hi ha, exec_increase_of_indexedAddress hj hb, signedAdd_congr r s hvalue]

end

/-! ### The statements -/

/-- Settles O36: an enter's word fits its register and is what the register then reads; an increase depends on M only. -/
theorem enterZeroTakesInstructionSign : Obligations.EnterZeroTakesInstructionSign := by
  refine ⟨?enter, fun a b i j r negateValue s hi hj ha hb => exec_increase_congr hi hj ha hb⟩
  intro a i r negateValue s m hi hm hfits
  have hlt := natAbs_lt_of_indexedAddress hm
  obtain ⟨hmag, -⟩ := addressWord_spec a negateValue hlt
  rw [← hmag] at hfits
  obtain ⟨t, ht⟩ := writeReg_succeeds (s := s) hfits
  obtain ⟨hread, -⟩ := writeReg_ok ht
  rw [exec_enter_of_indexedAddress hi hm, ← addressWord_eq_mkword a negateValue hlt]
  exact ⟨t, conclude_eq_next.mpr ht, hread⟩

/-- Settles O39, by the one fault of a signed addition into an index register; the fault carries the old state. -/
theorem increaseIndexRegisterOverflows : Obligations.IncreaseIndexRegisterOverflows := by
  intro a i r negateValue s m hi hr hm hsum
  have hvalue := toInt_addressWord negateValue hm
  rw [exec_increase_of_indexedAddress hi hm, conclude_eq_raised, signedAdd_error_iff, hvalue]
  exact ⟨hr, hsum, rfl⟩

end Sys2Proof.Machine
end

section
/-! The comparisons (46 R250): what the indicator says of two integers, the frame of the one write to CI, what `exec`
answers for a refused and for an accepted operand, and the statement. -/

namespace Sys2Proof.Machine

/-! ### The indicator -/

/-- Each value of the indicator stands for one of the three orders of the integers. -/
theorem compareInts_iff (r m : Int) :
    (compareInts r m = .less ↔ r < m) ∧ (compareInts r m = .equal ↔ r = m) ∧
      (compareInts r m = .greater ↔ m < r) := by
  unfold compareInts
  obtain h | rfl | h := lt_trichotomy r m
  case inl => simp [h, h.ne, h.not_gt]
  case inr.inl => simp
  case inr.inr => simp [h, h.ne', h.not_gt]

/-! ### The one write -/

/-- A write to CI changes no register, not PC, not OT, no word of memory and no field of the model's own. -/
theorem setCi_frame (s : State) (ci : Indicator) :
    sameRegsBut [] s (s.setCi ci) ∧ (s.setCi ci).pc = s.pc ∧ (s.setCi ci).ot = s.ot ∧ sameMem s (s.setCi ci) ∧
      sameModel s (s.setCi ci) :=
  ⟨fun r _ => State.readReg_setCi s ci r, State.setCi_pc .., State.setCi_ot ..,
    fun b => congrArg (·.read b) (State.setCi_mem s ci), ⟨State.setCi_zeroSumSign .., State.setCi_draws ..⟩⟩

/-! ### What a comparison answers -/

section
variable {a : Addr} {f : Byte} {i : Instr} {r : Reg} {s : State}

/-- The operand's checks are a comparison's only ones. -/
theorem exec_compare_raised_iff {c : FaultCause} (hi : (i, r) ∈ compares a f) :
    exec i s = .fault (.raised c s) ↔ fieldOperand a f s = .error c := by
  rw [exec_compare hi, conclude_eq_raised, compareOp_error_iff]

/-- With its operand a comparison completes: the field that memory's word has, the register's has too. -/
theorem exec_compare_of_operand {vm : Word} (hi : (i, r) ∈ compares a f) (hm : fieldOperand a f s = .ok vm) :
    ∃ vr, truncateToField (s.readReg r) f = .ok vr ∧
      exec i s = .next (s.setCi (compareInts (toInt vr) (toInt vm))) := by
  obtain ⟨e, -, -, hfield⟩ := fieldOperand_ok_iff.mp hm
  have hlegal := (truncateToField_ok_iff.mp hfield).1
  have hr := truncateToField_of_legal (s.readReg r) hlegal
  refine ⟨_, hr, ?_⟩
  rw [exec_compare hi, conclude_eq_next]
  exact compareOp_ok_iff.mpr ⟨vm, _, hm, hr, rfl⟩

end

/-! ### The statement -/

/-- Settles O40: the checks of the address, of memory's bound and of the field spec in their order, then the write of
CI. -/
theorem compareRule : Obligations.CompareRule := by
  intro a f i r s hi
  have raised {c : FaultCause} := (exec_compare_raised_iff (s := s) (c := c) hi).mpr
  refine ⟨?address, fun e he => ⟨?range, fun hlt => ⟨?field, ?indicator⟩⟩⟩
  case address => exact fun c hc => raised (fieldOperand_error_iff.mpr (.inl hc))
  case range => exact fun hge => raised (fieldOperand_error_iff.mpr (.inr ⟨e, he, .inl ⟨hge, rfl⟩⟩))
  case field =>
    intro c hc
    have hrefused := truncateToField_error_iff.mp hc
    exact raised (fieldOperand_error_iff.mpr (.inr ⟨e, he, .inr ⟨hlt, hrefused⟩⟩))
  case indicator =>
    intro vm hvm
    obtain ⟨vr, hvr, hexec⟩ := exec_compare_of_operand hi (fieldOperand_ok_iff.mpr ⟨e, he, hlt, hvm⟩)
    refine ⟨vr, _, hvr, hexec, ?_⟩
    obtain ⟨hless, hequal, hgreater⟩ := compareInts_iff (toInt vr) (toInt vm)
    rw [State.setCi_ci]
    exact ⟨hless, hequal, hgreater, setCi_frame s _⟩

end Sys2Proof.Machine
end

section
/-! The jump handler (47 R270, R271, R276): its address fault, when it completes, its frame, where it branches, and
that it does the same from any memory; then the statements on the target and on J. -/

namespace Sys2Proof.Machine

/-! ### The state an instruction executes in -/

/-- PC has advanced past a word fetched below 4000 (41 R131). -/
theorem pc_le_of_dispatched {s : State} (h : s.dispatched = true) : s.pc.toNat ≤ 4000 := by
  unfold State.dispatched at h
  rw [Bool.and_eq_true, decide_eq_true_eq, decide_eq_true_eq] at h
  exact h.2

/-! ### What the jump handler answers -/

section
variable {r : Option Reg} {sub : Nat} {f : Byte} {a : Addr} {s u : State}

/-- The effective address is a jump's first check (47 R276). -/
theorem jumpOp_of_address_error {c : FaultCause} (h : effectiveAddress a s = .error c) :
    jumpOp r sub f a s = .fault (.raised c s) := by
  simp only [jumpOp, h, raise]

/-- With an effective address a legal sub-mode completes: PC fits J, and there is no check of the target (47 R270). -/
theorem jumpOp_completes {e : Nat} (hpc : s.pc.toNat ≤ 4000) (hsub : sub ≤ 9) (he : effectiveAddress a s = .ok e) :
    ∃ u, jumpOp r sub f a s = .next u := by
  have hsave := saveReturn_eq (sub := sub) hpc
  cases htaken : jumpCondition r sub (if sub = 1 then s else s.setJ ⟨false, BitVec.ofNat 12 s.pc.toNat⟩) with
  | some taken => exact ⟨_, jumpOp_next_iff.mpr ⟨e, _, taken, he, hsave, htaken, rfl⟩⟩
  | none =>
    have hillegal := jumpCondition_none_iff.mp htaken
    omega

/-- The frame of a completed jump: J is all it writes of the registers, sub-mode 1 not even that; OT is cleared by the
sub-modes 2 and 3 (47 R272). -/
theorem jumpOp_next_frame (h : jumpOp r sub f a s = .next u) :
    sameRegsBut [.j] s u ∧ (sub = 1 → u.readReg .j = s.readReg .j) ∧ u.ci = s.ci ∧ u.mem = s.mem ∧
      u.ot = if sub = 2 ∨ sub = 3 then false else s.ot := by
  obtain ⟨e, t, taken, -, ht, -, rfl⟩ := jumpOp_next_iff.mp h
  obtain ⟨hregs, ⟨-, ⟨hot, hci⟩, -⟩, hmem, hsame, -⟩ := saveReturn_ok ht
  have hframe : sameRegsBut [.j] s t ∧ (sub = 1 → t.readReg .j = s.readReg .j) ∧ t.ci = s.ci ∧ t.mem = s.mem :=
    ⟨hregs, fun h1 => congrArg (·.readReg .j) (hsame h1), hci, hmem⟩
  rw [clearOverflow_eq, hot]
  cases taken with
  | true => simpa [sameRegsBut] using hframe
  | false => simpa [sameRegsBut] using hframe

/-- No jump tests J, so its condition may be read before J is written (47 R276). -/
theorem jumpCondition_of_saveReturn {t : State} (hr : r ≠ some .j) (h : saveReturn sub s = .ok t) :
    jumpCondition r sub t = jumpCondition r sub s := by
  obtain ⟨hregs, ⟨-, ⟨hot, hci⟩, -⟩, -⟩ := saveReturn_ok h
  cases r with
  | none => simp only [jumpCondition, hot, hci]
  | some q =>
    have hq : t.readReg q = s.readReg q := hregs q (fun hmem => hr (congrArg some (List.mem_singleton.mp hmem)))
    simp only [jumpCondition, hot, hq]

/-- A completed jump goes to its effective address if its condition holds, and falls through if not. -/
theorem jumpOp_next_branch {e : Nat} {taken : Bool} (h : jumpOp r sub f a s = .next u)
    (he : effectiveAddress a s = .ok e) (hr : r ≠ some .j) (hc : jumpCondition r sub s = some taken) :
    u.pc.toNat = if taken then e else s.pc.toNat := by
  obtain ⟨e', t, taken', he', ht, hc', rfl⟩ := jumpOp_next_iff.mp h
  obtain rfl : e = e' := Except.ok.inj (he.symm.trans he')
  obtain rfl : taken = taken' :=
    Option.some.inj (hc.symm.trans ((jumpCondition_of_saveReturn hr ht).symm.trans hc'))
  obtain ⟨-, ⟨hpc, -⟩, -⟩ := saveReturn_ok ht
  cases taken with
  | true =>
    have hle : e ≤ 8190 := effectiveAddress_le he
    rw [if_pos rfl, if_pos rfl, State.setPc_pc]
    exact Nat.mod_eq_of_lt (by omega)
  | false => rw [if_neg Bool.false_ne_true, if_neg Bool.false_ne_true, clearOverflow_eq, State.setOt_pc, hpc]

end

/-! ### A jump and memory -/

section
variable (s : State) (m : Memory)

/-- The effective address is computed from registers (41 R133). -/
theorem effectiveAddress_setMem (a : Addr) : effectiveAddress a (s.setMem m) = effectiveAddress a s := by
  unfold effectiveAddress indexedAddress indexValue
  simp only [State.readReg_setMem]

theorem saveReturn_setMem (sub : Nat) : saveReturn sub (s.setMem m) = (saveReturn sub s).map (·.setMem m) := by
  unfold saveReturn
  split
  · rfl
  · rw [State.setMem_pc]
    simp only [State.writeReg]
    cases narrow (mkword false s.pc.toNat) <;> rfl

theorem jumpCondition_setMem (r : Option Reg) (sub : Nat) :
    jumpCondition r sub (s.setMem m) = jumpCondition r sub s := by
  unfold jumpCondition
  cases r <;> simp only [State.readReg_setMem, State.setMem_ot, State.setMem_ci]

theorem clearOverflow_setMem (sub : Nat) : clearOverflow sub (s.setMem m) = (clearOverflow sub s).setMem m := by
  unfold clearOverflow; split <;> rfl

end

/-- A jump reads no memory: from any other it completes alike, with that memory kept. -/
theorem jumpOp_next_setMem {r : Option Reg} {sub : Nat} {f : Byte} {a : Addr} {s u : State}
    (h : jumpOp r sub f a s = .next u) (m : Memory) : jumpOp r sub f a (s.setMem m) = .next (u.setMem m) := by
  obtain ⟨e, t, taken, he, ht, hc, rfl⟩ := jumpOp_next_iff.mp h
  refine jumpOp_next_iff.mpr ⟨e, t.setMem m, taken, ?address, ?save, ?condition, ?result⟩
  case address => rw [effectiveAddress_setMem, he]
  case save => rw [saveReturn_setMem, ht, Except.map]
  case condition => rw [jumpCondition_setMem, hc]
  case result =>
    rw [clearOverflow_setMem]
    cases taken <;> rfl

/-! ### The statements -/

/-- The late fault of a target above memory: the next fetch finds no word there (47 R270). -/
theorem step_of_pc_above {t : State} {e : Nat} (he : 4000 ≤ e) (hpc : t.pc.toNat = e) :
    step t = .fault (.raised (.invalidAddress (.word e)) t) := by
  subst hpc
  exact step_of_fetch_error (memRead_error_iff.mpr ⟨he, rfl⟩)

/-- Settles O42: the address fault, then the completed jump, its frame and its independence of memory. -/
theorem jumpTarget : Obligations.JumpTarget := by
  intro a i s hs hi
  obtain ⟨r, sub, f, hsub, -, -, hexec⟩ := exec_jump hi
  refine ⟨fun c hc => (hexec s).trans (jumpOp_of_address_error hc), fun e he => ?completes⟩
  obtain ⟨t, ht⟩ := jumpOp_completes (r := r) (f := f) (pc_le_of_dispatched hs) hsub he
  obtain ⟨-, -, -, hmem, -⟩ := jumpOp_next_frame ht
  have hpc : t.pc.toNat = e ∨ t.pc = s.pc :=
    (jumpOp_next_pc ht).symm.imp_left fun h => Except.ok.inj (h.symm.trans he)
  exact ⟨t, (hexec s).trans ht, hmem, hpc, fun m => (hexec _).trans (jumpOp_next_setMem ht m), step_of_pc_above⟩

/-- Settles O43: what a completed jump leaves in J, by its sub-mode (47 R271). -/
theorem jumpSavesReturnAddress : Obligations.JumpSavesReturnAddress := by
  intro a i s t _ hi ht
  obtain ⟨r, sub, f, -, hjsj, -, hexec⟩ := exec_jump hi
  obtain ⟨-, hsave⟩ := exec_next_of_jump hi ht
  obtain ⟨-, hkeep, -⟩ := jumpOp_next_frame ((hexec s).symm.trans ht)
  exact ⟨hsave, fun h => hkeep (hjsj.mpr h)⟩

end Sys2Proof.Machine
end

section
/-! OT across an instruction (47 R272): no handler but the jump handler's sub-modes 2 and 3 clears it. One lemma per
handler, then the case split over the instructions, and the statement on JOV and JNOV. "Not cleared" is `≤` on
`Bool`. -/

namespace Sys2Proof.Machine

/-! ### The handlers that leave OT alone or set it -/

theorem loadOp_ot_le {r : Reg} {negative : Bool} {a : Addr} {f : Byte} {s t : State}
    (h : loadOp r negative a f s = .ok t) : s.ot ≤ t.ot := by
  obtain ⟨v, -, hwrite⟩ := loadOp_ok_iff.mp h
  obtain ⟨-, -, ⟨-, ⟨hot, -⟩, -⟩, -⟩ := writeReg_ok hwrite
  exact hot.ge

theorem storeOp_ot_le {v : Word} {a : Addr} {f : Byte} {s t : State} (h : storeOp v a f s = .ok t) :
    s.ot ≤ t.ot := by
  obtain ⟨e, new, -, -, -, rfl⟩ := storeOp_ok_iff.mp h
  exact (State.setMem_ot ..).ge

/-- A signed addition sets OT on overflow (41 R136). -/
theorem signedAdd_ot_le {r : Reg} {v : Word} {s t : State} (h : signedAdd r v s = .ok t) : s.ot ≤ t.ot := by
  obtain ⟨-, -, -, -, -, hot, -⟩ := signedAdd_ok h
  exact hot ▸ Bool.left_le_or _ _

theorem addOp_ot_le {subtract : Bool} {a : Addr} {f : Byte} {s t : State} (h : addOp subtract a f s = .ok t) :
    s.ot ≤ t.ot := by
  obtain ⟨v, -, hadd⟩ := addOp_ok_iff.mp h
  exact signedAdd_ot_le hadd

theorem mulOp_ot_le {a : Addr} {f : Byte} {s t : State} (h : mulOp a f s = .ok t) : s.ot ≤ t.ot := by
  obtain ⟨v, -, rfl⟩ := mulOp_ok_iff.mp h
  rw [multiply, State.setX_ot, State.setA_ot]

/-- DIV sets OT when the quotient does not fit (44 R194). -/
theorem divOp_ot_le {a : Addr} {f : Byte} {s t : State} (h : divOp a f s = .ok t) : s.ot ≤ t.ot := by
  obtain ⟨v, -, hdiv⟩ := divOp_ok_iff.mp h
  obtain ⟨-, -, -, -, -, hot⟩ := divide_ok hdiv
  exact hot ▸ Bool.left_le_or _ _

theorem addrXferOp_ot_le {r : Reg} {negateValue increase : Bool} {a : Addr} {s t : State}
    (h : addrXferOp r negateValue increase a s = .ok t) : s.ot ≤ t.ot := by
  obtain ⟨m, -, hres⟩ := addrXferOp_ok_iff.mp h
  cases increase with
  | true => exact signedAdd_ot_le hres
  | false =>
    obtain ⟨-, -, ⟨-, ⟨hot, -⟩, -⟩, -⟩ := writeReg_ok hres
    exact hot.ge

theorem compareOp_ot_le {r : Reg} {a : Addr} {f : Byte} {s t : State} (h : compareOp r a f s = .ok t) :
    s.ot ≤ t.ot := by
  obtain ⟨vm, vr, -, -, rfl⟩ := compareOp_ok_iff.mp h
  exact (State.setCi_ot ..).ge

theorem setPairAX_ot (s : State) (v : Nat) : (s.setPairAX v).ot = s.ot := by
  rw [State.setPairAX, State.setX_ot, State.setA_ot]

theorem shiftOf_ot (i : Instr) (n : Nat) (s : State) : (shiftOf i n s).ot = s.ot := by
  unfold shiftOf
  split
  case h_1 | h_2 => exact State.setA_ot ..
  all_goals exact setPairAX_ot ..

theorem shiftOp_ot_le {i : Instr} {a : Addr} {s t : State} (h : shiftOp (shiftOf i) a s = .ok t) : s.ot ≤ t.ot := by
  obtain ⟨n, -, rfl⟩ := shiftOp_ok_iff.mp h
  exact (shiftOf_ot i n s).ge

theorem moveOp_ot_le {a : Addr} {count : Byte} {s t : State} (h : moveOp a count s = .ok t) : s.ot ≤ t.ot := by
  obtain ⟨src, -, ⟨-, rfl⟩ | ⟨-, -, -, -, hwrite⟩⟩ := moveOp_ok_iff.mp h
  · exact le_rfl
  · obtain ⟨-, -, ⟨-, ⟨hot, -⟩, -⟩, -⟩ := writeReg_ok hwrite
    rw [hot, State.setMem_ot]

/-! ### All instructions -/

/-- A completed instruction that is not JOV or JNOV does not clear OT. -/
theorem exec_next_ot_le {i : Instr} {s t : State} (h : exec i s = .next t) (hi : ∀ a, ¬ (i = .jov a ∨ i = .jnov a)) :
    s.ot ≤ t.ot := by
  generalize ho : exec i s = o at h
  cases ho ▸ exec_shape i s with
  | load => exact loadOp_ot_le (conclude_eq_next.mp h)
  | store => exact storeOp_ot_le (conclude_eq_next.mp h)
  | add => exact addOp_ot_le (conclude_eq_next.mp h)
  | sub => exact addOp_ot_le (conclude_eq_next.mp h)
  | mul => exact mulOp_ot_le (conclude_eq_next.mp h)
  | div => exact divOp_ot_le (conclude_eq_next.mp h)
  | enter => exact addrXferOp_ot_le (conclude_eq_next.mp h)
  | increase => exact addrXferOp_ot_le (conclude_eq_next.mp h)
  | compare => exact compareOp_ot_le (conclude_eq_next.mp h)
  | shift => exact shiftOp_ot_le (conclude_eq_next.mp h)
  | move => exact moveOp_ot_le (conclude_eq_next.mp h)
  | unimplemented => cases h
  | jump r sub f _ _ _ h23 =>
    obtain ⟨-, -, -, -, hot⟩ := jumpOp_next_frame h
    rw [if_neg (mt h23.mp (hi _))] at hot
    exact hot.ge

/-! ### The statement -/

/-- The sub-modes that test OT complete with it clear, and branch on its old value. -/
theorem overflowJump_completes {a : Addr} {s : State} {e sub : Nat} {taken : Bool} (f : Byte)
    (hs : s.dispatched = true) (he : effectiveAddress a s = .ok e) (hsub : sub = 2 ∨ sub = 3)
    (hc : jumpCondition none sub s = some taken) :
    ∃ t, jumpOp none sub f a s = .next t ∧ t.ot = false ∧ t.pc.toNat = if taken then e else s.pc.toNat := by
  obtain ⟨t, ht⟩ := jumpOp_completes (r := none) (f := f) (pc_le_of_dispatched hs) (show sub ≤ 9 by omega) he
  obtain ⟨-, -, -, -, hot⟩ := jumpOp_next_frame ht
  exact ⟨t, ht, hot.trans (if_pos hsub), jumpOp_next_branch ht he nofun hc⟩

/-- Settles O45: JOV is sub-mode 2 and JNOV sub-mode 3, with the negated condition; all others keep a set OT set. -/
theorem overflowJumps : Obligations.OverflowJumps := by
  refine ⟨fun a s e hs he => ⟨?jov, ?jnov⟩, ?others⟩
  case jov => exact overflowJump_completes 2 hs he (.inl rfl) rfl
  case jnov =>
    obtain ⟨t, ht, hot, hpc⟩ := overflowJump_completes 3 hs he (.inr rfl) (taken := !s.ot) rfl
    refine ⟨t, ht, hot, hpc.trans ?_⟩
    cases s.ot <;> rfl
  case others =>
    intro i s t h hset hclear
    by_contra hi
    have hle : s.ot ≤ t.ot := exec_next_ot_le h (not_exists.mp hi)
    rw [hset, hclear] at hle
    exact absurd hle (by decide)

end Sys2Proof.Machine
end

section
/-! The conditional jumps (47 R273, R274): the six conditions as sets of states, the rows of the two families as their
tested registers and conditions, and the statement. -/

namespace Sys2Proof.Machine

/-! ### The conditions -/

/-- The states that the six conditions hold in, in the order of the sub-modes 4..9 (47 R273). -/
def conditionStates : List (List Indicator) :=
  [[.less], [.equal], [.greater], [.equal, .greater], [.less, .greater], [.less, .equal]]

/-- The registers of the opcodes 40..47, in the order of the opcodes (30 R75). -/
def testedRegisters : List Reg := [.a, .i1, .i2, .i3, .i4, .i5, .i6, .x]

theorem condition_subMode {ts : List Indicator} (h : ts ∈ conditionStates) (x : Indicator) :
    condition (subMode ts) x = some (decide (x ∈ ts)) := by
  revert ts
  cases x <;> decide

/-- The sub-modes from 4 on test the comparison indicator, or the state of a register (47 R273, R274). -/
theorem jumpCondition_of_subMode (ts : List Indicator) (s : State) :
    jumpCondition none (subMode ts) s = condition (subMode ts) s.ci ∧
      ∀ r, jumpCondition (some r) (subMode ts) s = condition (subMode ts) (regState (s.readReg r)) := by
  obtain ⟨k, hk⟩ := Nat.exists_eq_add_of_le' (subMode_range ts).1
  rw [hk]
  exact ⟨rfl, fun _ => rfl⟩

/-! ### The rows of the families -/

theorem indicatorJumps_conditions (a : Addr) : (indicatorJumps a).map (·.2) = conditionStates := rfl

/-- Every register of the opcodes 40..47 has a jump for every condition. -/
theorem registerJumps_conditions (a : Addr) : (registerJumps a).map (·.2) = testedRegisters ×ˢ conditionStates := rfl

theorem conditionStates_of_indicatorJumps {a : Addr} {i : Instr} {ts : List Indicator}
    (h : (i, ts) ∈ indicatorJumps a) : ts ∈ conditionStates :=
  indicatorJumps_conditions a ▸ List.mem_map_of_mem h

theorem testedRegisters_of_registerJumps {a : Addr} {i : Instr} {r : Reg} {ts : List Indicator}
    (h : (i, r, ts) ∈ registerJumps a) : r ∈ testedRegisters ∧ ts ∈ conditionStates := by
  have hrow : (r, ts) ∈ (registerJumps a).map (·.2) := List.mem_map_of_mem h
  rw [registerJumps_conditions] at hrow
  exact List.pair_mem_product.mp hrow

/-! ### The statement -/

/-- A jump whose condition is that the state `x` is one of `ts`: it completes, at its target iff the condition holds,
with CI and every register but J as before. -/
theorem conditionalJump_completes {r : Option Reg} {a : Addr} {s : State} {e : Nat} {ts : List Indicator}
    {x : Indicator} (f : Byte) (hs : s.dispatched = true) (he : effectiveAddress a s = .ok e) (hr : r ≠ some .j)
    (hts : ts ∈ conditionStates) (hc : jumpCondition r (subMode ts) s = condition (subMode ts) x) :
    ∃ t, jumpOp r (subMode ts) f a s = .next t ∧ t.pc.toNat = (if x ∈ ts then e else s.pc.toNat) ∧ t.ci = s.ci ∧
      sameRegsBut [.j] s t := by
  obtain ⟨t, ht⟩ := jumpOp_completes (r := r) (f := f) (pc_le_of_dispatched hs) (subMode_range ts).2 he
  obtain ⟨hregs, -, hci, -⟩ := jumpOp_next_frame ht
  have hpc := jumpOp_next_branch ht he hr (hc.trans (condition_subMode hts x))
  simp only [decide_eq_true_eq] at hpc
  exact ⟨t, ht, hpc, hci, hregs⟩

/-- Settles O46: the jumps on CI, then those on a register, whose state is `regState` (47 R274). -/
theorem conditionalJumps : Obligations.ConditionalJumps := by
  intro a s e hs he
  refine ⟨fun i ts hi => ?indicator, fun i r ts hi => ?register⟩
  case indicator =>
    rw [exec_indicatorJump hi]
    obtain ⟨t, ht, hpc, hci, -⟩ := conditionalJump_completes (r := none) (BitVec.ofNat 6 (subMode ts)) hs he nofun
      (conditionStates_of_indicatorJumps hi) (jumpCondition_of_subMode ts s).1
    exact ⟨t, ht, hpc, hci⟩
  case register =>
    obtain ⟨hr, hts⟩ := testedRegisters_of_registerJumps hi
    have hj : r ≠ .j := fun h => absurd (h ▸ hr) (by decide)
    rw [exec_registerJump hi]
    obtain ⟨t, ht, hpc, hci, hregs⟩ := conditionalJump_completes (BitVec.ofNat 6 (subMode ts - 4)) hs he
      (fun h => hj (Option.some.inj h)) hts ((jumpCondition_of_subMode ts s).2 r)
    exact ⟨t, ht, hpc, hci, hregs r (fun h => hj (List.mem_singleton.mp h))⟩

end Sys2Proof.Machine
end

section
/-! MOVE with overlapping ranges (49 R362): what `exec` answers when both ranges lie in memory, the copy when the
destination starts inside the source range and when it does not, and the statement. -/

namespace Sys2Proof.Machine

theorem exec_move (a : Addr) (count : Byte) (s : State) : exec (.move a count) s = conclude s (moveOp a count s) := rfl

/-- A move of at least one word whose ranges lie in memory completes: `d + n` is at most 4000, so the write of I1 never
fails (49 R360). -/
theorem exec_move_completes {a : Addr} {count : Byte} {s : State} {src d : Nat} (he : effectiveAddress a s = .ok src)
    (hd : toInt (s.readReg .i1) = d) (hn : 0 < count.toNat) (hsrc : src + count.toNat ≤ 4000)
    (hdst : d + count.toNat ≤ 4000) :
    ∃ t, exec (.move a count) s = .next t ∧ t.readReg .i1 = mkword false (d + count.toNat) ∧
      t.mem = copyWords s.mem src d count.toNat := by
  have hfits : mag (mkword false (d + count.toNat)) < 2 ^ 12 := by
    rw [mag_mkword _ (by omega)]
    omega
  obtain ⟨t, ht⟩ := writeReg_succeeds (s := s.setMem (copyWords s.mem src d count.toNat)) (r := .i1) (.inr hfits)
  obtain ⟨hi1, -, -, hmem⟩ := writeReg_ok ht
  have hmove : moveOp a count s = .ok t :=
    moveOp_ok_iff.mpr ⟨src, he, .inr ⟨hn, hsrc, by omega, by omega, by rw [hd]; exact ht⟩⟩
  exact ⟨t, by rw [exec_move, hmove, conclude_ok], hi1, hmem.trans (State.setMem_mem ..)⟩

section
variable {m : Memory} {src dst n k : Nat}

/-- A destination inside the source range: word `k` is the leading word `k` modulo the distance. -/
theorem copyWords_read_of_forward_overlap (hwf : m.wf = true) (hdst : dst + n ≤ 4000) (hk : k < n) (hlo : src < dst)
    (hhi : dst < src + n) : (copyWords m src dst n).read (dst + k) = m.read (src + k % (dst - src)) := by
  rw [copyWords_read hwf hdst hk, if_pos ⟨hlo, hhi⟩]

/-- Any other destination, and so every one at or before the source, receives an exact copy. -/
theorem copyWords_read_of_no_forward_overlap (hwf : m.wf = true) (hdst : dst + n ≤ 4000) (hk : k < n)
    (h : ¬ (src < dst ∧ dst < src + n)) : (copyWords m src dst n).read (dst + k) = m.read (src + k) := by
  rw [copyWords_read hwf hdst hk, if_neg h]

end

/-- Settles O52: either overlap needs a word to copy, so the move completes, and each direction has its law of the
copy. -/
theorem moveOverlap : Obligations.MoveOverlap := by
  intro a count s src d hwf he hd hsrc hdst
  refine ⟨fun hlo hhi => ?forward, fun hlo hhi => ?backward⟩
  case forward =>
    obtain ⟨t, ht, hi1, hmem⟩ := exec_move_completes he hd (by omega) hsrc hdst
    exact ⟨t, ht, hi1, fun k hk => hmem ▸ copyWords_read_of_forward_overlap hwf hdst hk hlo hhi⟩
  case backward =>
    obtain ⟨t, ht, hi1, hmem⟩ := exec_move_completes he hd (by omega) hsrc hdst
    have hbefore : ¬ (src < d ∧ d < src + count.toNat) := fun h => absurd h.1 hlo.asymm
    exact ⟨t, ht, hi1, fun k hk => hmem ▸ copyWords_read_of_no_forward_overlap hwf hdst hk hbefore⟩

end Sys2Proof.Machine
end

section
/-! The two round trips of the encoding, and the words that are no instruction (30 R76, R79, R86 to R88). The encoder's
rows are compared with the opcode map in the laws of each instruction; the map's own branches are walked through once,
in `decodeFields_shape`. -/

namespace Sys2Proof

/-! ### From an instruction to its word -/

open Laws.EncodedFields in
/-- The law of each instruction, for all of them: the map reads a well-formed one from the fields its encoder writes. -/
theorem encodedFields : ∀ i : Instr, Laws.EncodedFields.Statement i :=
  @Instr.rec Statement
    add sub mul div sla sra slax srax slc src move lda ld1 ld2 ld3 ld4 ld5 ld6 ldx ldan ld1n ld2n ld3n ld4n ld5n ld6n
    ldxn sta st1 st2 st3 st4 st5 st6 stx stj stz jmp jsj jov jnov jl je jg jge jne jle jan jaz jap jann janz janp j1n
    j1z j1p j1nn j1nz j1np j2n j2z j2p j2nn j2nz j2np j3n j3z j3p j3nn j3nz j3np j4n j4z j4p j4nn j4nz j4np j5n j5z
    j5p j5nn j5nz j5np j6n j6z j6p j6nn j6nz j6np jxn jxz jxp jxnn jxnz jxnp inca deca enta enna inc1 dec1 ent1 enn1
    inc2 dec2 ent2 enn2 inc3 dec3 ent3 enn3 inc4 dec4 ent4 enn4 inc5 dec5 ent5 enn5 inc6 dec6 ent6 enn6 incx decx entx
    ennx cmpa cmp1 cmp2 cmp3 cmp4 cmp5 cmp6 cmpx nop num char hlt opcode5Other jbus ioc in_ out jred

/-- Settles O1: the decoder reads the fields of the encoder's word, from which the map reads the instruction. -/
theorem decodeEncodeRoundTrip : Obligations.DecodeEncodeRoundTrip := by
  intro i hwf
  obtain ⟨a, f, c, hword, hmap⟩ := encodedFields i
  rw [hword, decode_pack, hmap hwf]

/-! ### From a word to its instruction -/

open Machine in
/-- What the opcode map can answer: an instruction whose word has these fields, or the refusal of an illegal mode or of
an illegal sub-mode. -/
inductive DecodeShape (c f : Byte) (a : Addr) : Except Reject Instr → Prop
  | row {i : Instr} (hwf : i.wellFormed = true) (hword : encode i = pack a f c)
      (hmode : ¬ illegalMode c.toNat f.toNat) (hsub : ¬ illegalSubmode c.toNat f.toNat) : DecodeShape c f a (.ok i)
  | mode (h : illegalMode c.toNat f.toNat) : DecodeShape c f a (.error (.invalidFieldSpec f))
  | submode (h : illegalSubmode c.toNat f.toNat) : DecodeShape c f a (.error (.illegalJump c f a))

section
open Machine
variable {c f k g : Byte} {a : Addr} {i : Instr}

/-- A row of an opcode that takes every F. -/
theorem DecodeShape.of_opcode (hword : encode i = pack a f k) (hc : c.toNat = k.toNat) (hwf : i.wellFormed = true)
    (hlegal : ¬ illegalMode c.toNat f.toNat ∧ ¬ illegalSubmode c.toNat f.toNat) : DecodeShape c f a (.ok i) := by
  obtain rfl := BitVec.eq_of_toNat_eq hc
  exact .row hwf hword hlegal.1 hlegal.2

/-- A row that fixes both the opcode and F. -/
theorem DecodeShape.of_opcode_field (hword : encode i = pack a g k) (hc : c.toNat = k.toNat) (hf : f.toNat = g.toNat)
    (hwf : i.wellFormed = true) (hlegal : ¬ illegalMode c.toNat f.toNat ∧ ¬ illegalSubmode c.toNat f.toNat) :
    DecodeShape c f a (.ok i) := by
  obtain rfl := BitVec.eq_of_toNat_eq hf
  exact .of_opcode hword hc hwf hlegal

theorem DecodeShape.of_submode (k : Byte) (hc : c.toNat = k.toNat) (h : illegalSubmode c.toNat f.toNat) :
    DecodeShape c f a (.error (.illegalJump k f a)) := by
  obtain rfl := BitVec.eq_of_toNat_eq hc
  exact .submode h

end

open Machine in
/-- The map branch by branch: the opcode 5, the opcodes with an illegal mode, those with an illegal sub-mode, and the
rows that take every F. -/
theorem decodeFields_shape (c f : Byte) (a : Addr) : DecodeShape c f a (decodeFields c f a) := by
  unfold decodeFields
  split
  case h_6 hc => -- opcode 5
    split
    case h_4 h0 h1 h2 =>
      simp only [imp_false] at h0 h1 h2
      exact .of_opcode rfl hc (decide_eq_true (by omega)) (by unfold illegalMode illegalSubmode; omega)
    all_goals exact .of_opcode_field rfl hc ‹_› rfl (by unfold illegalMode illegalSubmode; omega)
  case h_7 hc => -- opcode 6, the shifts
    split
    case h_7 => exact .mode (by unfold illegalMode; simp only [imp_false] at *; omega)
    all_goals exact .of_opcode_field rfl hc ‹_› rfl (by unfold illegalMode illegalSubmode; omega)
  case h_40 hc => -- opcode 39
    split
    case h_11 => exact .of_submode 39 hc (by unfold illegalSubmode; simp only [imp_false] at *; omega)
    all_goals exact .of_opcode_field rfl hc ‹_› rfl (by unfold illegalMode illegalSubmode; omega)
  case h_41 | h_42 | h_43 | h_44 | h_45 | h_46 | h_47 | h_48 => -- opcodes 40 to 47, the jumps on a register
    rename_i hc
    split
    case h_7 => exact .of_submode _ hc (by unfold illegalSubmode; simp only [imp_false] at *; omega)
    all_goals exact .of_opcode_field rfl hc ‹_› rfl (by unfold illegalMode illegalSubmode; omega)
  case h_49 | h_50 | h_51 | h_52 | h_53 | h_54 | h_55 | h_56 => -- opcodes 48 to 55, the address transfers
    rename_i hc
    split
    case h_5 => exact .mode (by unfold illegalMode; simp only [imp_false] at *; omega)
    all_goals exact .of_opcode_field rfl hc ‹_› rfl (by unfold illegalMode illegalSubmode; omega)
  case h_65 => -- no opcode has seven bits
    have := c.isLt
    simp only [imp_false] at *
    omega
  all_goals exact .of_opcode rfl ‹_› rfl (by unfold illegalMode illegalSubmode; omega)

open Machine in
/-- The same for the decoder, which reads the fields of the word. -/
theorem decode_shape (w : Word) : DecodeShape (opcodeOf w) (fieldOf w) (addrOf w) (decode w) :=
  decodeFields_shape _ _ _

/-- Settles O2: a row's fields are the word's own, and a word is its fields. -/
theorem encodeDecodeRoundTrip : Obligations.EncodeDecodeRoundTrip := by
  intro w i hi
  cases hi ▸ decode_shape w with
  | row hwf hword => exact ⟨hwf, hword.trans (pack_fields w)⟩

/-- Settles O3: the two refusals of the map are exclusive, and no row has either condition. -/
theorem decodeRejectsExactly : Obligations.DecodeRejectsExactly := by
  intro w q
  generalize hx : decode w = x
  cases hx ▸ decode_shape w with
  | row _ _ hmode hsub => simp [hmode, hsub]
  | mode h =>
    have hsub : ¬ Machine.illegalSubmode (opcodeOf w).toNat (fieldOf w).toNat := by
      unfold Machine.illegalMode Machine.illegalSubmode at *; omega
    simp [h, hsub, eq_comm]
  | submode h =>
    have hmode : ¬ Machine.illegalMode (opcodeOf w).toNat (fieldOf w).toNat := by
      unfold Machine.illegalMode Machine.illegalSubmode at *; omega
    simp [h, hmode, eq_comm]

/-- Settles O6, word by word of the spec's examples (30 R88). -/
theorem sampleWordsDecode : Obligations.SampleWordsDecode := by
  unfold Obligations.SampleWordsDecode
  decide

end Sys2Proof
end

section
/-! What the step does with a fetched word (41 R130 to R132): the four cases of a step, the index value, the decode
faults, what a faulting step leaves (60 R372), and that nothing is refused (60 R381). -/

namespace Sys2Proof.Machine

/-! ### The words that run no implemented instruction -/

/-- Settles O55, by the row of the instruction. -/
theorem unimplementedFault : Obligations.UnimplementedFault := fun _ _ i c g _ hi => forall_unimplementeds (i, c, g) hi

theorem decodeFields_opcode5Other {f : Byte} (a : Addr) (h : 3 ≤ f.toNat) :
    decodeFields 5 f a = .ok (.opcode5Other a f) := by
  obtain ⟨k, hk⟩ := Nat.exists_eq_add_of_le' h
  simp only [decodeFields]
  rw [hk]
  rfl

/-- The opcode 5 has a row for each of the first three F, and one for all the others (30 R84). -/
theorem decodeFields_opcode5 (f : Byte) (a : Addr) :
    ∃ i, decodeFields 5 f a = .ok i ∧ (i, 5, f) ∈ unimplementeds a f := by
  obtain h | rfl | rfl | rfl : 3 ≤ f.toNat ∨ f = 0 ∨ f = 1 ∨ f = 2 := by bv_omega
  · exact ⟨_, decodeFields_opcode5Other a h, by simp [unimplementeds]⟩
  · exact ⟨.num a, rfl, by simp [unimplementeds]⟩
  · exact ⟨.char a, rfl, by simp [unimplementeds]⟩
  · exact ⟨.hlt a, rfl, by simp [unimplementeds]⟩

/-- The opcodes that the spec leaves unimplemented decode, for every F, to an unimplemented instruction (30 R84). -/
theorem decodeFields_unimplemented {c : Byte} (f : Byte) (a : Addr) (h : c.toNat ∈ [0, 5, 34, 35, 36, 37, 38]) :
    ∃ i, decodeFields c f a = .ok i ∧ (i, c, f) ∈ unimplementeds a f := by
  obtain rfl | rfl | rfl | rfl | rfl | rfl | rfl :
      c = 0 ∨ c = 5 ∨ c = 34 ∨ c = 35 ∨ c = 36 ∨ c = 37 ∨ c = 38 := by
    simp only [List.mem_cons, List.not_mem_nil, or_false] at h
    bv_omega
  case inr.inl => exact decodeFields_opcode5 f a
  all_goals exact ⟨_, rfl, by simp [unimplementeds]⟩

section
variable {s : State} (hpc : s.pc.toNat < 4000)
include hpc

/-- An illegal mode faults at decode, with PC advanced (30 R86, R87). -/
theorem step_of_illegalMode (h : illegalMode (opcodeOf s.fetchedWord).toNat (fieldOf s.fetchedWord).toNat) :
    step s = .fault (.raised (.invalidFieldSpec (fieldOf s.fetchedWord)) s.advancePc) :=
  step_of_decode_error hpc ((decodeRejectsExactly _ _).mpr (.inl ⟨h, rfl⟩))

/-- A jump word with an illegal sub-mode runs the jump handler (47 R275). -/
theorem step_of_illegalSubmode (h : illegalSubmode (opcodeOf s.fetchedWord).toNat (fieldOf s.fetchedWord).toNat) :
    step s = jumpOp (jumpRegister (opcodeOf s.fetchedWord))
      (jumpSubmode (opcodeOf s.fetchedWord) (fieldOf s.fetchedWord)) (fieldOf s.fetchedWord) (addrOf s.fetchedWord)
      s.advancePc :=
  step_of_decode_error hpc ((decodeRejectsExactly _ _).mpr (.inr ⟨h, rfl⟩))

end

/-- Settles O16: an unimplemented opcode decodes to an unimplemented instruction, an illegal mode to nothing. -/
theorem decodeFaultsAdvanceOnly : Obligations.DecodeFaultsAdvanceOnly := by
  intro s hpc
  refine ⟨fun h => ?_, step_of_illegalMode hpc⟩
  obtain ⟨i, hi, hrow⟩ := decodeFields_unimplemented (fieldOf s.fetchedWord) (addrOf s.fetchedWord) h
  exact (step_of_decode_ok hpc hi).trans (unimplementedFault _ _ _ _ _ _ hrow)

/-! ### The four cases of a step -/

/-- Settles O14: the dispatch, in the state with PC advanced. -/
theorem stepRunsDecoded : Obligations.StepRunsDecoded :=
  fun _ _ hpc hi => ⟨step_of_decode_ok hpc hi, advancePc_pc_toNat hpc⟩

/-- A step is a fetch fault, an instruction, an illegal mode's fault or an illegal sub-mode's jump. -/
inductive StepShape (s : State) : Outcome → Prop
  | fetchFault (hpc : 4000 ≤ s.pc.toNat) : StepShape s (raise (.invalidAddress (.word s.pc.toNat)) s)
  | instr {i : Instr} (hpc : s.pc.toNat < 4000) (hi : decode s.fetchedWord = .ok i) : StepShape s (exec i s.advancePc)
  | mode (hpc : s.pc.toNat < 4000)
      (h : illegalMode (opcodeOf s.fetchedWord).toNat (fieldOf s.fetchedWord).toNat) :
      StepShape s (raise (.invalidFieldSpec (fieldOf s.fetchedWord)) s.advancePc)
  | submode (hpc : s.pc.toNat < 4000)
      (h : illegalSubmode (opcodeOf s.fetchedWord).toNat (fieldOf s.fetchedWord).toNat) :
      StepShape s (jumpOp (jumpRegister (opcodeOf s.fetchedWord))
        (jumpSubmode (opcodeOf s.fetchedWord) (fieldOf s.fetchedWord)) (fieldOf s.fetchedWord) (addrOf s.fetchedWord)
        s.advancePc)

theorem step_shape (s : State) : StepShape s (step s) := by
  obtain hpc | hpc := Nat.lt_or_ge s.pc.toNat 4000
  case inr =>
    rw [(fetchFaultChangesNothing s).2 hpc]
    exact .fetchFault hpc
  case inl =>
    cases hd : decode s.fetchedWord with
    | ok i => exact step_of_decode_ok hpc hd ▸ .instr hpc hd
    | error q =>
      obtain ⟨h, -⟩ | ⟨h, -⟩ := (decodeRejectsExactly _ _).mp hd
      · exact step_of_illegalMode hpc h ▸ .mode hpc h
      · exact step_of_illegalSubmode hpc h ▸ .submode hpc h

/-! ### Nothing is refused -/

theorem exec_ne_refused (i : Instr) (s : State) (x : Refusal) : exec i s ≠ .refused x := by
  obtain ⟨y, hy, -⟩ | ⟨a, r, sub, f, -, hy⟩ := exec_keeps_pc_or_jump i s <;> rw [hy]
  · exact conclude_ne_refused
  · exact jumpOp_ne_refused

/-- Settles O19: every handler ends in a state or a fault. -/
theorem nothingIsRefused : Obligations.NothingIsRefused := by
  refine ⟨fun s x => ?_, exec_ne_refused⟩
  generalize ho : step s = o
  cases ho ▸ step_shape s with
  | fetchFault => exact nofun
  | instr => exact exec_ne_refused _ _ _
  | mode => exact nofun
  | submode => exact jumpOp_ne_refused

/-! ### Illegal sub-modes -/

theorem jumpSubmode_of_illegal {c f : Byte} (h : illegalSubmode c.toNat f.toNat) : 10 ≤ jumpSubmode c f := by
  unfold illegalSubmode at h
  unfold jumpSubmode
  split <;> omega

/-- With an effective address an illegal sub-mode faults, with J written (47 R275). -/
theorem jumpOp_of_illegal_submode {r : Option Reg} {sub : Nat} {f : Byte} {a : Addr} {s : State} {e : Nat}
    (hsub : 10 ≤ sub) (hpc : s.pc.toNat ≤ 4000) (he : effectiveAddress a s = .ok e) :
    jumpOp r sub f a s =
      .fault (.raised (.invalidFieldSpec f) (s.setJ ⟨false, BitVec.ofNat 12 s.pc.toNat⟩)) := by
  have hsave := saveReturn_eq (sub := sub) hpc
  rw [if_neg (by omega)] at hsave
  simp only [jumpOp, he, hsave, jumpCondition_none_iff.mpr hsub, raise]

/-- Settles O17: the address fault comes first, then J is written, then the sub-mode is refused. -/
theorem illegalSubmodeFaultsAfterJ : Obligations.IllegalSubmodeFaultsAfterJ := by
  intro s hpc h
  have hstep := step_of_illegalSubmode hpc h
  have hadvance := advancePc_pc_toNat hpc
  refine ⟨fun c hc => hstep.trans (jumpOp_of_address_error hc), fun e he => ?_⟩
  rw [← hadvance]
  exact hstep.trans (jumpOp_of_illegal_submode (jumpSubmode_of_illegal h) (by omega) he)

/-! ### What a fault leaves -/

/-- A legal jump makes all its checks before it writes J: one that faults leaves the state it started from. -/
theorem jumpOp_fault_after {r : Option Reg} {sub : Nat} {f : Byte} {a : Addr} {s : State} {q : Fault} (hsub : sub ≤ 9)
    (h : jumpOp r sub f a s = .fault q) : q.resume = s := by
  obtain ⟨c, -, rfl⟩ | ⟨t, -, hillegal, -⟩ := jumpOp_fault h
  · rfl
  · have := jumpCondition_none_iff.mp hillegal
    omega

/-- Every instruction that faults leaves the state it started from (41 R137). -/
theorem exec_fault_after {i : Instr} {s : State} {q : Fault} (h : exec i s = .fault q) : q.resume = s := by
  obtain ⟨x, hx, -⟩ | ⟨a, -, -, -, hj, -⟩ := exec_keeps_pc_or_jump i s
  · obtain ⟨c, -, rfl⟩ := conclude_eq_fault.mp (hx ▸ h)
    rfl
  · obtain ⟨r, sub, f, hsub, -, -, hx⟩ := exec_jump hj
    exact jumpOp_fault_after hsub (hx s ▸ h)

/-- Settles O18, by the four cases of a step; only an illegal sub-mode's jump faults after a write. -/
theorem faultLeavesState : Obligations.FaultLeavesState := by
  intro s t c h
  generalize ho : step s = o at h
  cases ho ▸ step_shape s with
  | fetchFault hpc =>
    cases h
    exact .inl ⟨hpc, rfl, rfl⟩
  | instr hpc => exact .inr (.inl ⟨hpc, exec_fault_after h⟩)
  | mode hpc =>
    cases h
    exact .inr (.inl ⟨hpc, rfl⟩)
  | submode hpc hillegal =>
    obtain ⟨haddress, hj⟩ := illegalSubmodeFaultsAfterJ s hpc hillegal
    cases he : effectiveAddress (addrOf s.fetchedWord) s.advancePc with
    | error c' =>
      cases h.symm.trans (ho.symm.trans (haddress c' he))
      exact .inr (.inl ⟨hpc, rfl⟩)
    | ok e =>
      cases h.symm.trans (ho.symm.trans (hj e he))
      exact .inr (.inr ⟨hpc, hillegal, rfl, rfl⟩)

/-! ### The index value -/

theorem indexValue_of_register {i : Byte} {r : Reg} (s : State) (h : indexRegister i = some r) :
    indexValue i s = .ok (toInt (s.readReg r)) := by
  have h0 : i ≠ 0 := by
    rintro rfl
    cases h
  rw [indexValue, if_neg h0, h]

/-- Settles O24: no index, the six registers, and the specs that name none. -/
theorem indexValue_spec : Obligations.IndexValue := by
  refine fun s i => ⟨fun h => if_pos h, fun r hr => ?register, fun h => indexValue_error_iff.mpr ⟨h, rfl⟩⟩
  have hvalue := indexValue_of_register s (indexRegister_some_iff.mpr (by simpa using hr))
  exact ⟨hvalue, indexValue_bounds hvalue⟩

end Sys2Proof.Machine
end

section
/-! The frames (10 R27, R32, R34): what each handler may change, the instructions that write registers only, the
stores, the jumps and MOVE, and the statements on them. -/

namespace Sys2Proof.Machine

/-! ### The handlers that write registers and flags only -/

/-- `t` is `s` but for the registers `ds`; CI, OT and the draw counter change under their conditions only, and OT is not
cleared. -/
structure Frame (ds : List Reg) (mayCi mayOt mayDraw : Prop) (s t : State) : Prop where
  regs : sameRegsBut ds s t
  pc : t.pc = s.pc
  mem : t.mem = s.mem
  zeroSumSign : t.zeroSumSign = s.zeroSumSign
  ci : ¬ mayCi → t.ci = s.ci
  ot : ¬ mayOt → t.ot = s.ot
  ot_le : s.ot ≤ t.ot
  draws : ¬ mayDraw → t.draws = s.draws

/-- A frame under stronger conditions is one under weaker ones. -/
theorem Frame.mono {ds : List Reg} {ci ot dr ci' ot' dr' : Prop} {s t : State} (h : Frame ds ci ot dr s t)
    (hci : ci → ci') (hot : ot → ot') (hdr : dr → dr') : Frame ds ci' ot' dr' s t :=
  { h with ci := h.ci ∘ mt hci, ot := h.ot ∘ mt hot, draws := h.draws ∘ mt hdr }

theorem writeReg_frame {r : Reg} {w : Word} {s t : State} (h : s.writeReg r w = .ok t) :
    Frame [r] False False False s t := by
  obtain ⟨-, hregs, ⟨hpc, ⟨hot, hci⟩, -, hz, hd⟩, hmem⟩ := writeReg_ok h
  exact ⟨hregs, hpc, hmem, hz, fun _ => hci, fun _ => hot, hot.ge, fun _ => hd⟩

theorem loadOp_frame {r : Reg} {negative : Bool} {a : Addr} {f : Byte} {s t : State}
    (h : loadOp r negative a f s = .ok t) : Frame [r] False False False s t := by
  obtain ⟨v, -, hwrite⟩ := loadOp_ok_iff.mp h
  exact writeReg_frame hwrite

/-- A signed addition notes its overflow in a wide register only (41 R136). -/
theorem signedAdd_frame {r : Reg} {v : Word} {s t : State} (h : signedAdd r v s = .ok t) :
    Frame [r] False (r.wide = true) False s t := by
  obtain ⟨hregs, hpc, hci, hmem, ⟨hz, hd⟩, hot, -⟩ := signedAdd_ok h
  refine ⟨hregs, hpc, hmem, hz, fun _ => hci, fun hr => ?_, signedAdd_ot_le h, fun _ => hd⟩
  rw [hot, Bool.eq_false_iff.mpr hr, Bool.false_and, Bool.or_false]

theorem addOp_frame {subtract : Bool} {a : Addr} {f : Byte} {s t : State} (h : addOp subtract a f s = .ok t) :
    Frame [.a] False True False s t := by
  obtain ⟨v, -, hadd⟩ := addOp_ok_iff.mp h
  exact (signedAdd_frame hadd).mono id (fun _ => trivial) id

/-- A state that differs in A and X only. -/
theorem setAX_frame (s : State) (v w : Word) : Frame [.a, .x] False False False s ((s.setA v).setX w) :=
  { regs := fun _ hq => readReg_setAX hq ..
    pc := rfl, mem := rfl, zeroSumSign := rfl, ci := fun _ => rfl, ot := fun _ => rfl, ot_le := le_rfl
    draws := fun _ => rfl }

theorem setA_frame (s : State) (v : Word) : Frame [.a] False False False s (s.setA v) := writeReg_frame (r := .a) rfl

theorem mulOp_frame {a : Addr} {f : Byte} {s t : State} (h : mulOp a f s = .ok t) :
    Frame [.a, .x] False False False s t := by
  obtain ⟨v, -, rfl⟩ := mulOp_ok_iff.mp h
  exact setAX_frame ..

theorem divOp_frame {a : Addr} {f : Byte} {s t : State} (h : divOp a f s = .ok t) :
    Frame [.a, .x] False True True s t := by
  obtain ⟨v, -, hdiv⟩ := divOp_ok_iff.mp h
  obtain ⟨hregs, hpc, hci, hmem, hz, -⟩ := divide_ok hdiv
  exact ⟨hregs, hpc, hmem, hz, fun _ => hci, fun hot => absurd trivial hot, divOp_ot_le h,
    fun hd => absurd trivial hd⟩

theorem enterOp_frame {r : Reg} {negateValue : Bool} {a : Addr} {s t : State}
    (h : addrXferOp r negateValue false a s = .ok t) : Frame [r] False False False s t := by
  obtain ⟨m, -, hwrite⟩ := addrXferOp_ok_iff.mp h
  exact writeReg_frame hwrite

theorem increaseOp_frame {r : Reg} {negateValue : Bool} {a : Addr} {s t : State}
    (h : addrXferOp r negateValue true a s = .ok t) : Frame [r] False (r.wide = true) False s t := by
  obtain ⟨m, -, hadd⟩ := addrXferOp_ok_iff.mp h
  exact signedAdd_frame hadd

theorem compareOp_frame {r : Reg} {a : Addr} {f : Byte} {s t : State} (h : compareOp r a f s = .ok t) :
    Frame [] True False False s t := by
  obtain ⟨vm, vr, -, -, rfl⟩ := compareOp_ok_iff.mp h
  obtain ⟨hregs, hpc, hot, -, hz, hd⟩ := setCi_frame s (compareInts (toInt vr) (toInt vm))
  exact ⟨hregs, hpc, State.setCi_mem .., hz, fun hci => absurd trivial hci, fun _ => hot, hot.ge, fun _ => hd⟩

theorem shiftOf_frame {i : Instr} {ds : List Reg} {a : Addr} (h : (i, ds) ∈ shiftTargets a) (n : Nat) (s : State) :
    Frame ds False False False s (shiftOf i n s) := by
  simp only [shiftTargets, List.mem_cons, List.not_mem_nil, or_false, Prod.mk.injEq] at h
  obtain ⟨rfl, rfl⟩ | ⟨rfl, rfl⟩ | ⟨rfl, rfl⟩ | ⟨rfl, rfl⟩ | ⟨rfl, rfl⟩ | ⟨rfl, rfl⟩ := h
  case inl | inr.inl => exact setA_frame ..
  all_goals exact setAX_frame ..

/-! ### The instructions that write registers and flags only -/

theorem shifts_eq_shiftTargets (a : Addr) : shifts a = (shiftTargets a).map (·.1) := rfl

theorem exec_shift_frame {i : Instr} {ds : List Reg} {a : Addr} {s t : State} (hi : (i, ds) ∈ shiftTargets a)
    (h : exec i s = .next t) : Frame ds False False False s t := by
  rw [exec_shift (shifts_eq_shiftTargets a ▸ List.mem_map_of_mem hi), conclude_eq_next, shiftOp_ok_iff] at h
  obtain ⟨n, -, rfl⟩ := h
  exact shiftOf_frame hi n s

theorem exec_arithmetic_frame {i : Instr} {ds : List Reg} {a : Addr} {f : Byte} {s t : State}
    (hi : (i, ds) ∈ arithmeticTargets a f) (h : exec i s = .next t) :
    Frame ds False (i ∈ toggleSetters a f) (i = .div a f) s t := by
  simp only [arithmeticTargets, List.mem_cons, List.not_mem_nil, or_false, Prod.mk.injEq] at hi
  obtain ⟨rfl, rfl⟩ | ⟨rfl, rfl⟩ | ⟨rfl, rfl⟩ | ⟨rfl, rfl⟩ := hi
  · exact (addOp_frame (conclude_eq_next.mp h)).mono id (fun _ => by simp [toggleSetters]) False.elim
  · exact (addOp_frame (conclude_eq_next.mp h)).mono id (fun _ => by simp [toggleSetters]) False.elim
  · exact (mulOp_frame (conclude_eq_next.mp h)).mono id False.elim False.elim
  · exact (divOp_frame (conclude_eq_next.mp h)).mono id (fun _ => by simp [toggleSetters]) (fun _ => rfl)

/-- The increases of A and X are toggle setters (10 R32). -/
theorem toggleSetters_of_increases {i : Instr} {r : Reg} {n : Bool} {a : Addr} (f : Byte)
    (hi : (i, r, n) ∈ increases a) (hr : r.wide = true) : i ∈ toggleSetters a f := by
  have all : ∀ x ∈ increases a, x.2.1.wide = true → x.1 ∈ toggleSetters a f := by
    simp [increases, toggleSetters, Reg.wide]
  exact all _ hi hr

theorem mem_registerOnly_iff {x : Instr × List Reg} {a : Addr} {f : Byte} :
    x ∈ registerOnly a f ↔
      x ∈ (loads a f).map oneTarget ∨ x ∈ arithmeticTargets a f ∨ x ∈ (enters a).map oneTarget ∨
        x ∈ (increases a).map oneTarget ∨ x ∈ (compares a f).map noTarget ∨ x ∈ shiftTargets a := by
  simp only [registerOnly, List.mem_append, or_assoc]

/-- The frame of every row of `registerOnly`, family by family. -/
theorem exec_registerOnly_frame {i : Instr} {ds : List Reg} {a : Addr} {f : Byte} {s t : State}
    (hi : (i, ds) ∈ registerOnly a f) (h : exec i s = .next t) :
    Frame ds (∃ r, (i, r) ∈ compares a f) (i ∈ toggleSetters a f) (i = .div a f) s t := by
  obtain hi | hi | hi | hi | hi | hi := mem_registerOnly_iff.mp hi
  · obtain ⟨⟨j, r, n⟩, hx, ⟨⟩⟩ := List.mem_map.mp hi
    rw [exec_load hx, conclude_eq_next] at h
    exact (loadOp_frame h).mono False.elim False.elim False.elim
  · exact (exec_arithmetic_frame hi h).mono False.elim id id
  · obtain ⟨⟨j, r, n⟩, hx, ⟨⟩⟩ := List.mem_map.mp hi
    rw [exec_enter hx, conclude_eq_next] at h
    exact (enterOp_frame h).mono False.elim False.elim False.elim
  · obtain ⟨⟨j, r, n⟩, hx, ⟨⟩⟩ := List.mem_map.mp hi
    rw [exec_increase hx, conclude_eq_next] at h
    exact (increaseOp_frame h).mono False.elim (toggleSetters_of_increases f hx) False.elim
  · obtain ⟨⟨j, r⟩, hx, ⟨⟩⟩ := List.mem_map.mp hi
    rw [exec_compare hx, conclude_eq_next] at h
    exact (compareOp_frame h).mono (fun _ => ⟨r, hx⟩) False.elim False.elim
  · exact (exec_shift_frame hi h).mono False.elim False.elim False.elim

/-- Settles O54: the frame of the row. -/
theorem registerOnlyFrame : Obligations.RegisterOnlyFrame := by
  intro a f i ds s t hi h
  obtain ⟨hregs, hpc, hmem, hz, hci, hot, hle, hd⟩ := exec_registerOnly_frame hi h
  exact ⟨hregs, hpc, fun _ => hmem ▸ rfl, hz, fun hno => hci (not_exists.mpr hno), hot, Bool.le_iff_imp.mp hle, hd⟩

/-! ### The stores -/

/-- Settles O29, by the one memory write, at the effective address. -/
theorem storeFrame : Obligations.StoreFrame := by
  intro a f i source s t hi h
  obtain ⟨e, w, he, -, -, rfl⟩ := (exec_store_next_iff hi).mp h
  obtain ⟨hmem, hrest⟩ := setMem_write_frame s e w
  refine ⟨fun e' he' => ?_, hrest⟩
  obtain rfl : e = e' := Except.ok.inj (he.symm.trans he')
  exact hmem

/-! ### The jumps -/

/-- A jump changes no field of the model's own. -/
theorem jumpOp_next_model {r : Option Reg} {sub : Nat} {f : Byte} {a : Addr} {s u : State}
    (h : jumpOp r sub f a s = .next u) : sameModel s u := by
  obtain ⟨e, t, taken, -, ht, -, rfl⟩ := jumpOp_next_iff.mp h
  obtain ⟨-, ⟨-, -, -, hmodel⟩, -⟩ := saveReturn_ok ht
  rw [clearOverflow_eq]
  cases taken <;> exact hmodel

theorem sameRegsBut_nil_iff {r : Reg} {s t : State} (h : sameRegsBut [r] s t) :
    sameRegsBut [] s t ↔ t.readReg r = s.readReg r := by
  refine ⟨fun hall => hall r List.not_mem_nil, fun hr q _ => ?_⟩
  by_cases hq : q = r
  · exact hq ▸ hr
  · exact h q (mt List.mem_singleton.mp hq)

/-- Settles O47: the frame of the jump handler, by its sub-mode. -/
theorem jumpFrame : Obligations.JumpFrame := by
  intro a i s t hi h
  obtain ⟨r, sub, f, -, hjsj, hov, hexec⟩ := exec_jump hi
  rw [hexec s] at h
  obtain ⟨hregs, hj, hci, hmem, hot⟩ := jumpOp_next_frame h
  refine ⟨hregs, fun he => (sameRegsBut_nil_iff hregs).mpr (hj (hjsj.mpr he)), hci, fun hjov hjnov => ?_,
    fun _ => hmem ▸ rfl, jumpOp_next_model h⟩
  rwa [if_neg (mt hov.mp (not_or.mpr ⟨hjov, hjnov⟩))] at hot

/-! ### MOVE -/

/-- A completed MOVE has copied words to a range in memory, from the value of I1 on, and written I1; of no words,
nothing has changed (49 R360). -/
theorem moveOp_frame {a : Addr} {count : Byte} {s t : State} (h : moveOp a count s = .ok t) :
    ∃ src dst : Nat, (count.toNat = 0 ∨ toInt (s.readReg .i1) = (dst : Int)) ∧ dst + count.toNat ≤ 4000 ∧
      Frame [.i1] False False False (s.setMem (copyWords s.mem src dst count.toNat)) t := by
  obtain ⟨src, -, ⟨h0, rfl⟩ | ⟨-, -, hneg, hrange, hwrite⟩⟩ := moveOp_ok_iff.mp h
  · refine ⟨src, 0, .inl h0, by omega, ?_⟩
    rw [h0]
    exact ⟨fun _ _ => rfl, rfl, rfl, rfl, fun _ => rfl, fun _ => rfl, le_rfl, fun _ => rfl⟩
  · exact ⟨src, _, .inr (Int.toNat_of_nonneg hneg).symm, by omega, writeReg_frame hwrite⟩

/-- Settles O53: a copy leaves the words outside its destination range. -/
theorem moveFrame : Obligations.MoveFrame := by
  intro a count s t h
  rw [exec_move, conclude_eq_next] at h
  obtain ⟨src, dst, hdst, -, hframe⟩ := moveOp_frame h
  refine ⟨fun b hb => ?_, fun q hq => ?_, hframe.pc, ⟨hframe.ot not_false, hframe.ci not_false⟩,
    ⟨hframe.zeroSumSign, hframe.draws not_false⟩⟩
  · rw [hframe.mem, State.setMem_mem]
    obtain h0 | hdst := hdst
    · rw [h0, copyWords]
    · exact copyWords_outside _ _ _ _ _ (by omega)
  · rw [hframe.regs q hq, State.readReg_setMem]

end Sys2Proof.Machine
end

section
/-! What every instruction and every step keeps: who may write which piece of state (10 R30 to R36), the sound states
(10 R30, 20 R50), and the independence of the model's draw counter (log 3). -/

namespace Sys2Proof.Machine

/-! ### The five kinds of instruction -/

/-- An instruction writes registers and flags only, or stores, jumps or moves, or is unimplemented. -/
inductive InstrKind (i : Instr) : Prop
  | registerOnly {ds : List Reg} {a : Addr} {f : Byte} (h : (i, ds) ∈ registerOnly a f)
  | store {source : Option Reg} {a : Addr} {f : Byte} (h : (i, source) ∈ stores a f)
  | jump {a : Addr} (h : i ∈ jumps a)
  | move {a : Addr} {count : Byte} (h : i = .move a count)
  | unimplemented {c g : Byte} {a : Addr} {f : Byte} (h : (i, c, g) ∈ unimplementeds a f)

theorem arithmeticTargets_of_arithmetics {i : Instr} {a : Addr} {f : Byte} (h : i ∈ arithmetics a f) :
    ∃ ds, (i, ds) ∈ arithmeticTargets a f := by
  have hrows : arithmetics a f = (arithmeticTargets a f).map (·.1) := rfl
  obtain ⟨⟨j, ds⟩, hx, rfl⟩ := List.mem_map.mp (hrows ▸ h)
  exact ⟨ds, hx⟩

theorem shiftTargets_of_shifts {i : Instr} {a : Addr} (h : i ∈ shifts a) : ∃ ds, (i, ds) ∈ shiftTargets a := by
  obtain ⟨⟨j, ds⟩, hx, rfl⟩ := List.mem_map.mp (shifts_eq_shiftTargets a ▸ h)
  exact ⟨ds, hx⟩

theorem InstrKind.of_arithmetics {i : Instr} {a : Addr} {f : Byte} (h : i ∈ arithmetics a f) : InstrKind i := by
  obtain ⟨ds, hrow⟩ := arithmeticTargets_of_arithmetics h
  exact .registerOnly (mem_registerOnly_iff.mpr (.inr (.inl hrow)))

theorem instr_kind (i : Instr) : InstrKind i := by
  generalize ho : exec i State.reset = o
  cases ho ▸ exec_shape i State.reset with
  | load h => exact .registerOnly (mem_registerOnly_iff.mpr (.inl (List.mem_map_of_mem h)))
  | store h => exact .store h
  | add => exact .of_arithmetics (.head _)
  | sub => exact .of_arithmetics (.tail _ (.head _))
  | mul => exact .of_arithmetics (.tail _ (.tail _ (.head _)))
  | div => exact .of_arithmetics (.tail _ (.tail _ (.tail _ (.head _))))
  | enter h => exact .registerOnly (f := 0) (mem_registerOnly_iff.mpr (.inr (.inr (.inl (List.mem_map_of_mem h)))))
  | increase h =>
    exact .registerOnly (f := 0) (mem_registerOnly_iff.mpr (.inr (.inr (.inr (.inl (List.mem_map_of_mem h))))))
  | compare h =>
    exact .registerOnly (mem_registerOnly_iff.mpr (.inr (.inr (.inr (.inr (.inl (List.mem_map_of_mem h)))))))
  | jump _ _ _ h => exact .jump h
  | shift h =>
    obtain ⟨ds, hrow⟩ := shiftTargets_of_shifts h
    exact .registerOnly (f := 0) (mem_registerOnly_iff.mpr (.inr (.inr (.inr (.inr (.inr hrow))))))
  | move => exact .move rfl
  | unimplemented h => exact .unimplemented h

theorem exec_unimplemented_ne_next {i : Instr} {c g : Byte} {a : Addr} {f : Byte} {s t : State}
    (hi : (i, c, g) ∈ unimplementeds a f) : exec i s ≠ .next t := by
  rw [unimplementedFault a f i c g s hi]
  exact nofun

/-! ### Who may write what -/

/-- J is no target of an instruction that does not jump: the rows are the same for every address and field. -/
theorem j_notMem_of_registerOnly {i : Instr} {ds : List Reg} {a : Addr} {f : Byte} (h : (i, ds) ∈ registerOnly a f) :
    .j ∉ ds := by
  have hrows : (registerOnly a f).map (·.2) = (registerOnly ⟨false, 0, 0⟩ 0).map (·.2) := rfl
  have hall : ∀ ds ∈ (registerOnly ⟨false, 0, 0⟩ 0).map (·.2), .j ∉ ds := by decide
  exact hall ds (hrows ▸ List.mem_map_of_mem (f := (·.2)) h)

theorem regJ_eq_of_readReg {s t : State} (h : t.readReg .j = s.readReg .j) : t.regJ = s.regJ := widen_injective h

/-- A jump that changes OT is one of the two that clear it (47 R272). -/
theorem exec_jump_ot {i : Instr} {a : Addr} {s t : State} (hi : i ∈ jumps a) (h : exec i s = .next t)
    (hne : t.ot ≠ s.ot) : t.ot = false ∧ ∃ a, i = .jov a ∨ i = .jnov a := by
  obtain ⟨r, sub, f, -, -, hov, hexec⟩ := exec_jump hi
  obtain ⟨-, -, -, -, hot⟩ := jumpOp_next_frame ((hexec s).symm.trans h)
  by_cases hsub : sub = 2 ∨ sub = 3
  · exact ⟨hot.trans (if_pos hsub), a, hov.mp hsub⟩
  · exact absurd (hot.trans (if_neg hsub)) hne

/-- Settles O56, kind by kind from the frames. -/
theorem stateWriters : Obligations.StateWriters := by
  intro i s t h
  cases instr_kind i with
  | registerOnly hi =>
    have hframe := exec_registerOnly_frame hi h
    have hregJ := regJ_eq_of_readReg (hframe.regs .j (j_notMem_of_registerOnly hi))
    refine ⟨fun hne => ?ci, fun hne => ?ot, fun hne => absurd hframe.pc hne, fun hne => absurd hregJ hne,
      fun hne => absurd (fun _ => hframe.mem ▸ rfl) hne, hframe.zeroSumSign, fun hne => ?draws⟩
    case ci =>
      obtain ⟨r, hr⟩ := not_not.mp (mt hframe.ci hne)
      exact ⟨_, _, r, hr⟩
    case ot =>
      obtain ⟨-, hset⟩ := Bool.lt_iff.mp (lt_of_le_of_ne hframe.ot_le hne.symm)
      exact .inl ⟨hset, _, _, not_not.mp (mt hframe.ot hne)⟩
    case draws => exact ⟨_, _, not_not.mp (mt hframe.draws hne)⟩
  | store hi =>
    obtain ⟨e, w, -, -, -, rfl⟩ := (exec_store_next_iff hi).mp h
    exact ⟨absurd rfl, absurd rfl, absurd rfl, absurd rfl, fun _ => .inl ⟨_, _, _, hi⟩, rfl, absurd rfl⟩
  | jump hi =>
    obtain ⟨-, hjsj, hci, -, hmem, hz, hd⟩ := jumpFrame _ i s t hi h
    refine ⟨absurd hci, fun hne => .inr ?ot, fun _ => ⟨_, hi⟩, fun hne => ⟨_, hi, fun he => ?regJ⟩, absurd hmem, hz,
      absurd hd⟩
    case ot => exact exec_jump_ot hi h hne
    case regJ => exact hne (regJ_eq_of_readReg (hjsj he .j List.not_mem_nil))
  | move hi =>
    subst hi
    obtain ⟨-, hregs, hpc, ⟨hot, hci⟩, hz, hd⟩ := moveFrame _ _ s t h
    have hregJ := regJ_eq_of_readReg (hregs .j (by decide))
    exact ⟨absurd hci, absurd hot, absurd hpc, absurd hregJ, fun _ => .inr ⟨_, _, rfl⟩, hz, absurd hd⟩
  | unimplemented hi => exact absurd h (exec_unimplemented_ne_next hi)

/-! ### Sound states -/

theorem sound_iff {s : State} : s.sound = true ↔ s.mem.wf = true ∧ s.pc.toNat ≤ 8190 := by
  rw [State.sound, Bool.and_eq_true, decide_eq_true_eq]

/-- Settles O21: memory is empty and PC is 0. -/
theorem resetIsSound : Obligations.ResetIsSound := sound_iff.mpr ⟨Memory.wf_reset, by decide⟩

/-- Every instruction that completes keeps memory canonical: it leaves it, writes a word below 4000, or copies words to
a range below 4000. -/
theorem exec_next_mem_wf {i : Instr} {s t : State} (hwf : s.mem.wf = true) (h : exec i s = .next t) :
    t.mem.wf = true := by
  cases instr_kind i with
  | registerOnly hi => exact (exec_registerOnly_frame hi h).mem ▸ hwf
  | store hi =>
    obtain ⟨e, w, -, hlt, -, rfl⟩ := (exec_store_next_iff hi).mp h
    exact Memory.wf_write hwf hlt w
  | jump hi =>
    obtain ⟨r, sub, f, -, -, -, hexec⟩ := exec_jump hi
    obtain ⟨-, -, -, hmem, -⟩ := jumpOp_next_frame ((hexec s).symm.trans h)
    exact hmem ▸ hwf
  | move hi =>
    rw [hi, exec_move, conclude_eq_next] at h
    obtain ⟨src, dst, -, hrange, hframe⟩ := moveOp_frame h
    exact hframe.mem ▸ copyWords_wf hwf src hrange
  | unimplemented hi => exact absurd h (exec_unimplemented_ne_next hi)

/-- PC after a completed instruction is as before or an effective address, hence at most 8190 (10 R30). -/
theorem exec_next_pc_le {i : Instr} {s t : State} (hpc : s.pc.toNat ≤ 8190) (h : exec i s = .next t) :
    t.pc.toNat ≤ 8190 := by
  by_cases hi : ∃ a, i ∈ jumps a
  · obtain ⟨a, hi⟩ := hi
    obtain ⟨hkeep | hbranch, -⟩ := exec_next_of_jump hi h
    · exact hkeep ▸ hpc
    · exact effectiveAddress_le hbranch
  · exact (exec_next_pc_of_not_jump (not_exists.mp hi) h) ▸ hpc

/-- A jump handler that completes ran a legal sub-mode. -/
theorem jumpOp_next_sub_le {r : Option Reg} {sub : Nat} {f : Byte} {a : Addr} {s u : State}
    (h : jumpOp r sub f a s = .next u) : sub ≤ 9 := by
  obtain ⟨e, t, taken, -, -, hc, -⟩ := jumpOp_next_iff.mp h
  by_contra hsub
  cases hc.symm.trans (jumpCondition_none_iff.mpr (by omega))

/-- A completed step ran an instruction, in the state with PC advanced. -/
theorem step_next_ran {s t : State} (h : step s = .next t) :
    s.pc.toNat < 4000 ∧ ∃ i, decode s.fetchedWord = .ok i ∧ exec i s.advancePc = .next t := by
  generalize ho : step s = o at h
  cases ho ▸ step_shape s with
  | fetchFault => cases h
  | instr hpc hi => exact ⟨hpc, _, hi, h⟩
  | mode => cases h
  | submode hpc hillegal =>
    have hle := jumpOp_next_sub_le h
    have hge := jumpSubmode_of_illegal hillegal
    omega

/-- Settles O20: the instruction of a completed step keeps memory canonical and PC in range, from the state with PC
advanced; a fault leaves memory, and PC at most one further. -/
theorem stepKeepsSound : Obligations.StepKeepsSound := by
  intro s hs
  obtain ⟨hwf, hpc⟩ := sound_iff.mp hs
  refine ⟨fun t h => ?next, fun q h => ?fault⟩
  case next =>
    obtain ⟨hlt, i, -, hexec⟩ := step_next_ran h
    have hadvance := advancePc_pc_toNat hlt
    exact sound_iff.mpr ⟨exec_next_mem_wf (s := s.advancePc) hwf hexec, exec_next_pc_le (by omega) hexec⟩
  case fault =>
    obtain ⟨c, t⟩ := q
    obtain ⟨-, -, rfl⟩ | ⟨hlt, rfl⟩ | ⟨hlt, -, -, rfl⟩ := faultLeavesState s t c h
    · exact hs
    all_goals
      have hadvance : (s.pc + 1).toNat = s.pc.toNat + 1 := advancePc_pc_toNat hlt
      exact sound_iff.mpr ⟨hwf, show (s.pc + 1).toNat ≤ 8190 by omega⟩

/-! ### The draw counter -/

section
variable {s : State} {i : Instr} (n : Nat)

theorem sourceWord_setDraws (source : Option Reg) : sourceWord (s.setDraws n) source = sourceWord s source := by
  cases source with
  | none => rfl
  | some r => exact State.readReg_setDraws ..

/-- Every instruction but DIV does the same from every value of the counter, handler by handler. -/
theorem exec_setDraws (hi : ∀ a f, i ≠ .div a f) : exec i (s.setDraws n) = outDraws n (exec i s) := by
  generalize ho : exec i s = o
  cases ho ▸ exec_shape i s with
  | load h => rw [exec_load h, loadOp_setDraws, conclude_setDraws]
  | store h => rw [exec_store h, sourceWord_setDraws, storeOp_setDraws, conclude_setDraws]
  | add | sub => exact (congrArg _ (addOp_setDraws s n ..)).trans (conclude_setDraws ..)
  | mul => exact (congrArg _ (mulOp_setDraws s n ..)).trans (conclude_setDraws ..)
  | div => exact absurd rfl (hi _ _)
  | enter h => rw [exec_enter h, addrXferOp_setDraws, conclude_setDraws]
  | increase h => rw [exec_increase h, addrXferOp_setDraws, conclude_setDraws]
  | compare h => rw [exec_compare h, compareOp_setDraws, conclude_setDraws]
  | jump _ _ _ h =>
    obtain ⟨r, sub, f, -, -, -, hexec⟩ := exec_jump h
    rw [hexec, jumpOp_setDraws, ← hexec, ho]
  | shift h => rw [exec_shift h, shiftOp_setDraws s n h, conclude_setDraws]
  | move => rw [exec_move, moveOp_setDraws, conclude_setDraws]
  | unimplemented h => exact forall_unimplementeds _ h

/-- An instruction that completes and draws nothing does the same from every value of the counter. -/
theorem exec_next_setDraws {t : State} (h : exec i s = .next t) (hd : t.draws = s.draws) :
    exec i (s.setDraws n) = .next (t.setDraws n) := by
  by_cases hi : ∃ a f, i = .div a f
  · obtain ⟨a, f, rfl⟩ := hi
    exact conclude_eq_next.mpr (divOp_setDraws_of_ok s n (conclude_eq_next.mp h) hd)
  · push Not at hi
    rw [exec_setDraws n hi, h, outDraws]

/-- An instruction that faults does the same from every value of the counter. -/
theorem exec_fault_setDraws {c : FaultCause} (h : exec i s = .fault (.raised c s)) :
    exec i (s.setDraws n) = .fault (.raised c (s.setDraws n)) := by
  by_cases hi : ∃ a f, i = .div a f
  · obtain ⟨a, f, rfl⟩ := hi
    exact conclude_eq_raised.mpr (divOp_setDraws_of_error s n (conclude_eq_raised.mp h))
  · push Not at hi
    rw [exec_setDraws n hi, h, outDraws]

/-- The fetch does not read the counter, so the two steps run the same word. -/
theorem step_fault_setDraws {c : FaultCause} {t : State} (h : step s = .fault (.raised c t)) :
    step (s.setDraws n) = .fault (.raised c (t.setDraws n)) := by
  generalize ho : step s = o at h
  cases ho ▸ step_shape s with
  | fetchFault hpc =>
    cases h
    exact (fetchFaultChangesNothing (s.setDraws n)).2 hpc
  | instr hpc hi =>
    obtain rfl : t = s.advancePc := exec_fault_after h
    exact (step_of_decode_ok (s := s.setDraws n) hpc hi).trans (exec_fault_setDraws n h)
  | mode hpc hillegal =>
    cases h
    exact step_of_illegalMode (s := s.setDraws n) hpc hillegal
  | submode hpc hillegal =>
    refine (step_of_illegalSubmode (s := s.setDraws n) hpc hillegal).trans ?_
    exact (jumpOp_setDraws s.advancePc n ..).trans (h ▸ rfl)

end

/-- Settles O57: a step that completes ran an instruction; a fault leaves a state that differs in PC and J at most. -/
theorem drawCounterIsInvisible : Obligations.DrawCounterIsInvisible := by
  refine fun s n => ⟨fun t h hd => ?next, fun c t h => ⟨?draws, step_fault_setDraws n h⟩⟩
  case next =>
    obtain ⟨hpc, i, hi, hexec⟩ := step_next_ran h
    exact (step_of_decode_ok (s := s.setDraws n) hpc hi).trans (exec_next_setDraws n hexec hd)
  case draws =>
    obtain ⟨-, -, rfl⟩ | ⟨-, rfl⟩ | ⟨-, -, -, rfl⟩ := faultLeavesState s t c h <;> rfl

end Sys2Proof.Machine
end

section
/-! The laws of the codec (40 R110) and of memory (20 R51, R52; log 4). -/

namespace Sys2Proof.Machine

/-! ### The whole-word field spec -/

/-- The field `(0:5)` selects the whole word. -/
theorem truncateToField_whole (w : Word) : truncateToField w 5 = .ok w := by
  have hselect : mag w / 64 ^ (5 - fieldR 5) % 64 ^ fieldBytes 5 = mag w :=
    (congrArg (· % 64 ^ 5) (Nat.div_one _)).trans (Nat.mod_eq_of_lt (mag_lt w))
  rw [truncateToField_of_legal w rfl, hselect]
  exact congrArg _ (mkword_sign_mag w)

theorem spliceDigits_whole {p k s m : Nat} (hs : s < 64 ^ k) (hm : m < 64 ^ k) (hp : p = 0) :
    spliceDigits p k s m = s := by
  subst hp
  rw [spliceDigits, Nat.zero_add, Nat.div_eq_of_lt hm, Nat.mod_eq_of_lt hs, Nat.pow_zero, Nat.mod_one]
  omega

/-- The field `(0:5)` replaces the whole word. -/
theorem embedFromField_whole (v w : Word) : embedFromField v w 5 = .ok v := by
  have hsplice : spliceDigits (5 - fieldR 5) (fieldBytes 5) (mag v) (mag w) = mag v :=
    spliceDigits_whole (k := 5) (mag_lt v) (mag_lt w) rfl
  rw [embedFromField_ok_iff, hsplice]
  exact ⟨rfl, (mkword_sign_mag v).symm⟩

/-- Settles O10: the narrowing undoes the widening, the embedding the truncation, and the three laws of the signs and of
the whole word. -/
theorem codecLaws : Obligations.CodecLaws := by
  refine ⟨fun x => narrow_ok_iff.mpr rfl, fun w t f => embedFromField_of_truncateToField, toInt_negate,
    fun v w => ⟨truncateToField_whole w, embedFromField_whole v w⟩, fun w t f hf ht => ?unsigned⟩
  case unsigned =>
    have hL : fieldL f ≠ 0 := by
      unfold fieldL
      omega
    rw [sign_of_truncateToField ht, decide_eq_false hL, Bool.false_and]

/-! ### Memory -/

/-- Settles O11: the bound, then the read and the write below it. -/
theorem memoryReadWrite : Obligations.MemoryReadWrite := by
  intro s a w hwf
  refine ⟨fun ha => ⟨memRead_error_iff.mpr ⟨ha, rfl⟩, memWrite_error_iff.mpr ⟨ha, rfl⟩⟩, fun ha => ?_⟩
  obtain ⟨hmem, hrest⟩ := setMem_write_frame s a w
  exact ⟨memRead_ok_iff.mpr ⟨ha, rfl⟩, s.setMem (s.mem.write a w), memWrite_ok_iff.mpr ⟨ha, rfl⟩,
    memRead_ok_iff.mpr ⟨ha, (setMem_write_read hwf a w).symm⟩, hmem, Memory.wf_write hwf ha w, hrest⟩

/-- Memories that read alike wherever memory is. -/
def readAlike (m n : Memory) : Prop := ∀ a, a < 4000 → m.read a = n.read a

theorem Memory.wfFrom_cons_iff {lo a : Nat} {w : Word} {m : Memory} :
    Memory.wfFrom lo ((a, w) :: m) = true ↔
      lo ≤ a ∧ a < 4000 ∧ w ≠ Memory.unlisted ∧ Memory.wfFrom (a + 1) m = true := by
  simp only [Memory.wfFrom, Bool.and_eq_true, decide_eq_true_eq, and_assoc]

@[simp] theorem Memory.read_cons_self (a : Nat) (w : Word) (m : Memory) : Memory.read ((a, w) :: m) a = w := if_pos rfl

/-- A canonical memory lists its first address before any address that another one, which reads alike, starts from. -/
theorem head_not_below {lo hi a : Nat} {w : Word} {m n : Memory} (hm : Memory.wfFrom lo ((a, w) :: m) = true)
    (hn : Memory.wfFrom hi n = true) (h : readAlike ((a, w) :: m) n) : hi ≤ a := by
  obtain ⟨-, hlt, hw, -⟩ := Memory.wfFrom_cons_iff.mp hm
  by_contra hlow
  have hread := h a hlt
  rw [Memory.read_cons_self, Memory.read_below (by omega) hn] at hread
  exact hw hread

/-- After a common first entry, canonical memories that read alike go on alike. -/
theorem readAlike_tail {a : Nat} {w : Word} {m n : Memory} (hm : Memory.wfFrom (a + 1) m = true)
    (hn : Memory.wfFrom (a + 1) n = true) (h : readAlike ((a, w) :: m) ((a, w) :: n)) : readAlike m n := by
  intro b hb
  by_cases hba : b = a
  · rw [hba, Memory.read_below (Nat.lt_succ_self a) hm, Memory.read_below (Nat.lt_succ_self a) hn]
  · have hread := h b hb
    simpa only [Memory.read, if_neg hba] using hread

/-- The first entries are at the same address, each being no later than the other, and hold the word read there. -/
theorem eq_of_readAlike {lo : Nat} {m n : Memory} (hm : Memory.wfFrom lo m = true) (hn : Memory.wfFrom lo n = true)
    (h : readAlike m n) : m = n := by
  induction m generalizing lo n with
  | nil =>
    cases n with
    | nil => rfl
    | cons d n =>
      have hlow := head_not_below hn (hi := d.1 + 1) rfl (fun a ha => (h a ha).symm)
      omega
  | cons c m ih =>
    cases n with
    | nil =>
      have hlow := head_not_below hm (hi := c.1 + 1) rfl h
      omega
    | cons d n =>
      obtain ⟨a, v⟩ := c
      obtain ⟨b, w⟩ := d
      obtain ⟨-, hlt, hv, hm'⟩ := Memory.wfFrom_cons_iff.mp hm
      obtain ⟨-, hlt', hw, hn'⟩ := Memory.wfFrom_cons_iff.mp hn
      have hba := head_not_below hm (hi := b) (Memory.wfFrom_cons_iff.mpr ⟨le_rfl, hlt', hw, hn'⟩) h
      have hab := head_not_below hn (hi := a) (Memory.wfFrom_cons_iff.mpr ⟨le_rfl, hlt, hv, hm'⟩)
        (fun x hx => (h x hx).symm)
      obtain rfl : a = b := Nat.le_antisymm hab hba
      obtain rfl : v = w := by simpa using h a hlt
      rw [ih hm' hn' (readAlike_tail hm' hn' h)]

/-- Settles O12, by induction on the two lists. -/
theorem canonicalMemoryIsDetermined : Obligations.CanonicalMemoryIsDetermined :=
  fun _ _ hm hn h => eq_of_readAlike hm hn h

end Sys2Proof.Machine
end


section
/-! The host port (70 R400 to R409): when a poke succeeds and how it fails, what a command that is no step changes, and
that every session keeps the machine sound. -/

namespace Sys2Proof.Machine

/-! ### The pokes -/

section
variable {s t : State} {a w : Nat} {r : Reg}

theorem pokeMemory_of_address (ha : 4000 ≤ a) : pokeMemory a w s = .error (.invalidAddress (.word a)) := if_pos ha

/-- The value is checked after the address (70 R403). -/
theorem pokeMemory_of_value (ha : a < 4000) (hw : 2 ^ 31 ≤ w) : pokeMemory a w s = .error (.invalidWordValue w) := by
  rw [pokeMemory, if_neg (by omega), if_pos (by omega)]

theorem pokeMemory_of_fits (ha : a < 4000) (hw : w < 2 ^ 31) :
    pokeMemory a w s = .ok (s.setMem (s.mem.write a (BitVec.ofNat 31 w))) := by
  rw [pokeMemory, if_neg (by omega), if_neg (by omega), memWrite_ok_iff]
  exact ⟨ha, rfl⟩

/-- A poke into memory that succeeds has written a word below 4000. -/
theorem pokeMemory_ok (h : pokeMemory a w s = .ok t) :
    a < 4000 ∧ t = s.setMem (s.mem.write a (BitVec.ofNat 31 w)) := by
  obtain ha | ha := Nat.lt_or_ge a 4000
  case inr => cases (pokeMemory_of_address ha).symm.trans h
  obtain hw | hw := Nat.lt_or_ge w (2 ^ 31)
  case inr => cases (pokeMemory_of_value ha hw).symm.trans h
  exact ⟨ha, Except.ok.inj (h.symm.trans (pokeMemory_of_fits ha hw))⟩

theorem pokeRegister_of_value (hw : 2 ^ 31 ≤ w) : pokeRegister r w s = .error (.invalidWordValue w) := by
  rw [pokeRegister, if_pos (by omega)]

/-- A value that is a word goes through the narrowing (70 R405). -/
theorem pokeRegister_of_fits (hw : w < 2 ^ 31) : pokeRegister r w s = s.writeReg r (BitVec.ofNat 31 w) := by
  rw [pokeRegister, if_neg (by omega)]

/-- A poke into a register that succeeds is a register write. -/
theorem pokeRegister_ok (h : pokeRegister r w s = .ok t) : s.writeReg r (BitVec.ofNat 31 w) = .ok t := by
  obtain hw | hw := Nat.lt_or_ge w (2 ^ 31)
  case inr => cases (pokeRegister_of_value hw).symm.trans h
  exact (pokeRegister_of_fits hw).symm.trans h

end

theorem toNat_ofNat_word {w : Nat} (h : w < 2 ^ 31) : (BitVec.ofNat 31 w).toNat = w := Nat.mod_eq_of_lt h

theorem mag_ofNat_word {w : Nat} (h : w < 2 ^ 31) : mag (BitVec.ofNat 31 w) = w % 2 ^ 30 := by
  rw [mag, toNat_ofNat_word h]

theorem serve_pokeMemory (s : State) (a w : Nat) :
    serve (.pokeMemory a w) s = replyWrite s (pokeMemory a w s) := rfl

theorem serve_pokeRegister (s : State) (r : Reg) (w : Nat) :
    serve (.pokeRegister r w) s = replyWrite s (pokeRegister r w s) := rfl

/-- Settles O58: each check of the two pokes in its order, then their writes. -/
theorem hostPeeksAndPokes : Obligations.HostPeeksAndPokes := by
  intro s a w r hwf
  simp only [serve_pokeMemory, serve_pokeRegister]
  refine ⟨?peek, fun ha => ?address, fun ha hw => ?value, fun ha hw => ?poke, rfl, fun hw => ?regValue,
    fun hw hr hmag => ?narrowing, fun hw hfits => ?regPoke⟩
  case peek =>
    obtain ha | ha := Nat.lt_or_ge a 4000
    · have hread : s.memRead a = .ok (s.mem.read a) := memRead_ok_iff.mpr ⟨ha, rfl⟩
      simp only [serve, peekMemory, hread, if_pos ha]
    · have hread : s.memRead a = .error (.invalidAddress (.word a)) := memRead_error_iff.mpr ⟨ha, rfl⟩
      simp only [serve, peekMemory, hread, if_neg ha.not_gt]
  case address => rw [pokeMemory_of_address ha, replyWrite]
  case value => rw [pokeMemory_of_value ha hw, replyWrite]
  case poke =>
    obtain ⟨hmem, hrest⟩ := setMem_write_frame s a (BitVec.ofNat 31 w)
    refine ⟨_, by rw [pokeMemory_of_fits ha hw, replyWrite], ?_, hmem, hrest⟩
    rw [setMem_write_read hwf, toNat_ofNat_word hw]
  case regValue => rw [pokeRegister_of_value hw, replyWrite]
  case narrowing =>
    rw [pokeRegister_of_fits hw, writeReg_error_iff.mpr ⟨hr, mag_ofNat_word hw ▸ hmag, rfl⟩, replyWrite]
  case regPoke =>
    obtain ⟨t, ht⟩ := writeReg_succeeds (s := s) (r := r) (mag_ofNat_word hw ▸ hfits)
    obtain ⟨hread, hregs, hbeyond, -⟩ := writeReg_ok ht
    exact ⟨t, by rw [pokeRegister_of_fits hw, ht, replyWrite], by rw [hread, toNat_ofNat_word hw], hregs, hbeyond⟩

/-! ### What a command changes -/

/-- What a command other than `new` and `step` can do: nothing, one write to memory, or one to a register. -/
inductive ServeShape (s : State) : State → Prop
  | same : ServeShape s s
  | memory {a : Nat} (w : Word) (ha : a < 4000) : ServeShape s (s.setMem (s.mem.write a w))
  | register {r : Reg} {w : Word} {t : State} (h : s.writeReg r w = .ok t) : ServeShape s t

theorem serve_shape {c : Command} {s : State} (hnew : c ≠ .new) (hstep : c ≠ .step) :
    ServeShape s (serve c s).2 := by
  cases c with
  | new => exact absurd rfl hnew
  | step => exact absurd rfl hstep
  | peekRegister | peekOverflowToggle | peekComparisonIndicator => exact .same
  | peekMemory a =>
    rw [serve]
    split <;> exact .same
  | encode sg aa i f c =>
    rw [serve]
    split <;> exact .same
  | pokeMemory a w =>
    rw [serve_pokeMemory]
    cases h : pokeMemory a w s with
    | error e => exact .same
    | ok t =>
      obtain ⟨ha, rfl⟩ := pokeMemory_ok h
      exact .memory _ ha
  | pokeRegister r w =>
    rw [serve_pokeRegister]
    cases h : pokeRegister r w s with
    | error e => exact .same
    | ok t => exact .register (pokeRegister_ok h)

/-- Settles O59: the two flags' peeks, the frame of the commands, and the replies of `step` and `new`. -/
theorem hostStepAndFlags : Obligations.HostStepAndFlags := by
  refine fun s => ⟨rfl, rfl, fun c hnew hstep => ?frame, fun t h => by rw [serve, h, replyStep],
    fun c t h => by rw [serve, h, replyStep, cause_raised, resume_raised], rfl⟩
  generalize ht : (serve c s).2 = t
  cases ht ▸ serve_shape (s := s) hnew hstep with
  | same => exact ⟨rfl, rfl, rfl⟩
  | memory => exact ⟨rfl, rfl, rfl⟩
  | register h =>
    obtain ⟨-, -, ⟨hpc, hflags, -⟩, -⟩ := writeReg_ok h
    exact ⟨hpc, hflags⟩

/-! ### Sessions -/

theorem newMachine_sound (s : State) : (newMachine s).sound = true := resetIsSound

/-- Every command keeps a sound machine sound: `new` resets it, a step keeps it sound, and the others write at most one
word below 4000 or one register. -/
theorem serve_sound (c : Command) {s : State} (hs : s.sound = true) : (serve c s).2.sound = true := by
  by_cases hnew : c = .new
  · exact hnew ▸ newMachine_sound s
  by_cases hstep : c = .step
  · subst hstep
    rw [serve]
    cases h : step s with
    | next t => exact (stepKeepsSound s hs).1 t h
    | fault q => exact (stepKeepsSound s hs).2 q h
    | refused x => exact absurd h (nothingIsRefused.1 s x)
  · obtain ⟨hwf, hpc⟩ := sound_iff.mp hs
    generalize ht : (serve c s).2 = t
    cases ht ▸ serve_shape hnew hstep with
    | same => exact hs
    | memory w ha => exact sound_iff.mpr ⟨Memory.wf_write hwf ha w, hpc⟩
    | register h =>
      obtain ⟨-, -, ⟨hpc', -⟩, hmem⟩ := writeReg_ok h
      exact sound_iff.mpr ⟨hmem ▸ hwf, hpc' ▸ hpc⟩

/-- Settles O60, by induction on the commands; each one is served from a sound machine. -/
theorem sessionsKeepSound : Obligations.SessionsKeepSound := by
  intro cs
  induction cs with
  | nil => exact fun _ hs => hs
  | cons c cs ih => exact fun s hs => ih _ (serve_sound c hs)

end Sys2Proof.Machine
end

section
/-! The order of the checks (60 R373): each family refuses its address, then its operand, before anything else, and the
statement. -/

namespace Sys2Proof.Machine

section
variable {a : Addr} {f : Byte} {i : Instr} {s : State} {c : FaultCause}

theorem exec_div (a : Addr) (f : Byte) (s : State) : exec (.div a f) s = conclude s (divOp a f s) := rfl

theorem exec_arithmetic_of_operand_error (hi : i ∈ arithmetics a f) (hc : fieldOperand a f s = .error c) :
    exec i s = .fault (.raised c s) := by
  simp only [arithmetics, List.mem_cons, List.not_mem_nil, or_false] at hi
  obtain rfl | rfl | rfl | rfl := hi
  · exact conclude_eq_raised.mpr (addOp_error_iff.mpr hc)
  · exact conclude_eq_raised.mpr (addOp_error_iff.mpr hc)
  · exact conclude_eq_raised.mpr (mulOp_error_iff.mpr hc)
  · exact conclude_eq_raised.mpr (divOp_error_iff.mpr (.inl hc))

/-- A store checks what an operand checks, before it reads its source (43 R170). -/
theorem exec_store_of_operand_error {source : Option Reg} (hi : (i, source) ∈ stores a f)
    (hc : fieldOperand a f s = .error c) : exec i s = .fault (.raised c s) :=
  (exec_store_raised_iff hi).mpr (fieldOperand_error_iff.mp hc)

/-- Everything that reads a field of memory faults with its operand. -/
theorem exec_fieldReader_of_operand_error (hi : i ∈ fieldReaders a f) (hc : fieldOperand a f s = .error c) :
    exec i s = .fault (.raised c s) := by
  simp only [fieldReaders, List.mem_append] at hi
  obtain ((h | h) | h) | h := hi
  · obtain ⟨⟨j, r, n⟩, hx, rfl⟩ := List.mem_map.mp h
    exact exec_load_of_operand_error hx hc
  · obtain ⟨⟨j, source⟩, hx, rfl⟩ := List.mem_map.mp h
    exact exec_store_of_operand_error hx hc
  · exact exec_arithmetic_of_operand_error h hc
  · obtain ⟨⟨j, r⟩, hx, rfl⟩ := List.mem_map.mp h
    exact (exec_compare_raised_iff hx).mpr hc

/-- Everything that uses the effective address faults with it (41 R135). -/
theorem exec_addressUser_of_address_error (hi : i ∈ addressUsers a f) (hc : effectiveAddress a s = .error c) :
    exec i s = .fault (.raised c s) := by
  simp only [addressUsers, List.mem_append, List.mem_singleton] at hi
  obtain ((h | h) | h) | rfl := hi
  · exact exec_fieldReader_of_operand_error h (fieldOperand_error_iff.mpr (.inl hc))
  · obtain ⟨r, sub, g, -, -, -, hexec⟩ := exec_jump h
    exact (hexec s).trans (jumpOp_of_address_error hc)
  · rw [exec_shift h, conclude_eq_raised, shiftOp_error_iff, hc]
  · rw [exec_move, conclude_eq_raised, moveOp_error_iff]
    exact .inl hc

/-- An address transfer faults with its indexed address (45 R210). -/
theorem exec_transfer_of_index_error (hi : i ∈ transfers a) (hc : indexedAddress a s = .error c) :
    exec i s = .fault (.raised c s) := by
  obtain h | h := List.mem_append.mp hi
  all_goals obtain ⟨⟨j, r, n⟩, hx, rfl⟩ := List.mem_map.mp h
  · rw [exec_enter hx, conclude_eq_raised, addrXferOp_error_iff]
    exact .inl hc
  · rw [exec_increase hx, conclude_eq_raised, addrXferOp_error_iff]
    exact .inl hc

end

/-- Settles O23: the index spec, the sign, the bound, the field spec. -/
theorem checkOrder : Obligations.CheckOrder := by
  refine fun a f s i => ⟨fun hi h7 => ?index, fun hi m hm hneg => ?sign, fun hi e he =>
    ⟨fun hge => ?bound, fun hlt hf => ?field⟩⟩
  case index =>
    obtain hi | hi := hi
    · exact exec_addressUser_of_address_error hi (effectiveAddress_error_iff.mpr (.inl ⟨h7, rfl⟩))
    · exact exec_transfer_of_index_error hi (indexedAddress_error_iff.mpr ⟨h7, rfl⟩)
  case sign => exact exec_addressUser_of_address_error hi (effectiveAddress_of_neg hm hneg)
  case bound =>
    exact exec_fieldReader_of_operand_error hi (fieldOperand_error_iff.mpr (.inr ⟨e, he, .inl ⟨hge, rfl⟩⟩))
  case field =>
    exact exec_fieldReader_of_operand_error hi (fieldOperand_error_iff.mpr (.inr ⟨e, he, .inr ⟨hlt, hf, rfl⟩⟩))

end Sys2Proof.Machine
end

section
/-! The signed addition and the four arithmetic instructions (41 R136, 44), the address transfers that complete (45),
and their statements. -/

namespace Sys2Proof.Machine

/-! ### The signed addition -/

/-- The sign of a sum that is not zero is its own. -/
theorem sumSign_of_ne_zero (z : ZeroSumSign) (old : Word) {sum : Int} (h : sum ≠ 0) :
    sumSign z old sum = decide (sum < 0) := by
  unfold sumSign
  obtain hneg | hpos := lt_or_gt_of_ne h
  · rw [if_pos hneg, decide_eq_true hneg]
  · rw [if_neg hpos.not_gt, if_pos hpos, decide_eq_false hpos.not_gt]

/-- A word with the magnitude of a number, and of a number that is not zero its sign, has that number's value. -/
theorem toInt_of_mag_sign {w : Word} {n : Int} (hmag : mag w = n.natAbs) (hsign : n ≠ 0 → sign w = decide (n < 0)) :
    toInt w = n := by
  obtain rfl | hn := eq_or_ne n 0
  · exact Int.natAbs_eq_zero.mp ((toInt_natAbs w).trans hmag)
  · rw [toInt, hmag, hsign hn]
    by_cases hneg : n < 0
    · rw [if_pos (decide_eq_true hneg)]
      omega
    · rw [if_neg (by simpa using hneg)]
      omega

theorem signedAdd_succeeds {r : Reg} {v : Word} {s : State}
    (h : r.wide = true ∨ (toInt (s.readReg r) + toInt v).natAbs < 2 ^ 12) : ∃ t, signedAdd r v s = .ok t := by
  cases hx : signedAdd r v s with
  | ok t => exact ⟨t, rfl⟩
  | error c =>
    obtain ⟨hr, hsum, -⟩ := signedAdd_error_iff.mp hx
    obtain h | h := h
    · exact absurd (hr.symm.trans h) Bool.false_ne_true
    · omega

/-- Only a wide register's addition completes with a sum that 12 bits do not hold. -/
theorem wide_of_signedAdd_ok {r : Reg} {v : Word} {s t : State} (h : signedAdd r v s = .ok t)
    (hsum : 2 ^ 12 ≤ (toInt (s.readReg r) + toInt v).natAbs) : r.wide = true := by
  by_contra hr
  cases h.symm.trans (signedAdd_error_iff.mpr ⟨Bool.eq_false_iff.mpr hr, hsum, rfl⟩)

/-- The sum of an addition that completes is kept: exactly, or with its sign and its low 30 bits. Two words sum to less
than 2^31. -/
theorem signedAdd_keepsSum {r : Reg} {v : Word} {s t : State} (h : signedAdd r v s = .ok t) :
    keepsSum r (toInt (s.readReg r) + toInt v) s t := by
  obtain ⟨-, -, -, -, -, hot, hmag, hsign⟩ := signedAdd_ok h
  have hwide := wide_of_signedAdd_ok h
  have hbound : (toInt (s.readReg r) + toInt v).natAbs < 2 ^ 31 := by
    have hold := toInt_bounds (s.readReg r)
    have hv := toInt_bounds v
    omega
  generalize toInt (s.readReg r) + toInt v = sum at *
  refine ⟨fun hlt => ⟨?value, ?keepsOt⟩, fun hge => ⟨?low, ?sign, ?setsOt⟩, fun h0 => ?zero⟩
  case value =>
    rw [Nat.mod_eq_of_lt hlt] at hmag
    exact toInt_of_mag_sign hmag fun hne => hsign.trans (sumSign_of_ne_zero _ _ hne)
  case keepsOt =>
    have hfits : wideOverflow sum = false := decide_eq_false (by omega)
    rw [hot, hfits, Bool.and_false, Bool.or_false]
  case low =>
    rw [hmag]
    omega
  case sign => rw [hsign, sumSign_of_ne_zero _ _ (by omega)]
  case setsOt =>
    have hover : wideOverflow sum = true := decide_eq_true hge
    rw [hot, hwide (by omega), hover, Bool.and_true, Bool.or_true]
  case zero =>
    rw [hsign, h0]
    rfl

/-- The effect and the frame of a signed addition that completes. -/
theorem signedAdd_effect {r : Reg} {v : Word} {s t : State} (h : signedAdd r v s = .ok t) :
    keepsSum r (toInt (s.readReg r) + toInt v) s t ∧ sameRegsBut [r] s t ∧ t.pc = s.pc ∧ t.ci = s.ci ∧ sameMem s t ∧
      sameModel s t := by
  obtain ⟨hregs, hpc, hci, hmem, hmodel, -⟩ := signedAdd_ok h
  exact ⟨signedAdd_keepsSum h, hregs, hpc, hci, fun _ => hmem ▸ rfl, hmodel⟩

/-! ### ADD and SUB -/

theorem operandIs_iff {a : Addr} {f : Byte} {s : State} {v : Word} :
    operandIs a f s v ↔ fieldOperand a f s = .ok v := fieldOperand_ok_iff.symm

/-- Settles O30: both are one signed addition into A, SUB with the operand negated. -/
theorem addAndSubtract : Obligations.AddAndSubtract := by
  intro a f s v hv
  rw [operandIs_iff] at hv
  constructor
  · obtain ⟨t, ht⟩ := signedAdd_succeeds (r := .a) (v := v) (s := s) (.inl rfl)
    exact ⟨t, conclude_eq_next.mpr (addOp_ok_iff.mpr ⟨v, hv, ht⟩), signedAdd_effect ht⟩
  · obtain ⟨t, ht⟩ := signedAdd_succeeds (r := .a) (v := negate v) (s := s) (.inl rfl)
    rw [Int.sub_eq_add_neg, ← toInt_negate]
    exact ⟨t, conclude_eq_next.mpr (addOp_ok_iff.mpr ⟨v, hv, ht⟩), signedAdd_effect ht⟩

/-! ### MUL -/

theorem sameBeyondRegs_of_frame {ds : List Reg} {s t : State} (h : Frame ds False False False s t) :
    sameRegsBut ds s t ∧ sameBeyondRegs s t :=
  ⟨h.regs, h.pc, ⟨h.ot not_false, h.ci not_false⟩, fun _ => h.mem ▸ rfl, h.zeroSumSign, h.draws not_false⟩

/-- Settles O31: the product has at most 60 bits, so each half fits its register. -/
theorem multiply_spec : Obligations.Multiply := by
  intro a f s v hv
  have hmul : mulOp a f s = .ok (multiply v s) := mulOp_ok_iff.mpr ⟨v, operandIs_iff.mp hv, rfl⟩
  have hprod : mag s.regA * mag v < 2 ^ 30 * 2 ^ 30 := Nat.mul_lt_mul'' (mag_lt _) (mag_lt _)
  have hhigh : mag s.regA * mag v / 2 ^ 30 < 2 ^ 30 := Nat.div_lt_of_lt_mul hprod
  have hlow : mag s.regA * mag v % 2 ^ 30 < 2 ^ 30 := Nat.mod_lt _ (by decide)
  refine ⟨multiply v s, conclude_eq_next.mpr hmul, ?product, ?signA, ?signX,
    sameBeyondRegs_of_frame (mulOp_frame hmul)⟩
  all_goals simp only [multiply, State.setX_regA, State.setX_regX, State.setA_regA]
  case product => rw [mag_mkword _ hhigh, mag_mkword _ hlow, Nat.div_add_mod']
  case signA => exact sign_mkword _ hhigh
  case signX => exact sign_mkword _ hlow

/-! ### DIV -/

section
variable {v : Word} {s : State}

theorem divide_of_fits (h : mag s.regA < mag v) :
    divide v s = .ok ((s.setA (mkword (Bool.xor (sign s.regA) (sign v))
      ((mag s.regA * 2 ^ 30 + mag s.regX) / mag v))).setX
        (mkword (sign s.regA) ((mag s.regA * 2 ^ 30 + mag s.regX) % mag v))) := by
  rw [divide, if_neg (by omega)]
  exact if_neg h.not_ge

theorem divide_of_overflow (h0 : mag v ≠ 0) (h : mag v ≤ mag s.regA) : ∃ t, divide v s = .ok t ∧ t.ot = true := by
  rw [divide, if_neg h0]
  exact ⟨_, if_pos h, rfl⟩

theorem exec_div_of_operand {a : Addr} {f : Byte} (hv : operandIs a f s v) :
    exec (.div a f) s = conclude s (divide v s) := by
  rw [exec_div, divOp, operandIs_iff.mp hv]
  rfl

end

/-- Settles O32: with A below the divisor the quotient has 30 bits, and quotient and remainder make up the dividend. -/
theorem divideFits : Obligations.DivideFits := by
  intro a f s v hv hlt
  have hdiv := divide_of_fits hlt
  have hv30 := mag_lt v
  have hquot : (mag s.regA * 2 ^ 30 + mag s.regX) / mag v < 2 ^ 30 := by
    have hx := mag_lt s.regX
    apply Nat.div_lt_of_lt_mul
    calc mag s.regA * 2 ^ 30 + mag s.regX < (mag s.regA + 1) * 2 ^ 30 := by omega
      _ ≤ mag v * 2 ^ 30 := Nat.mul_le_mul_right _ hlt
  have hrem : (mag s.regA * 2 ^ 30 + mag s.regX) % mag v < mag v := Nat.mod_lt _ (by omega)
  refine ⟨_, (exec_div_of_operand hv).trans (congrArg _ hdiv), ?dividend, ?remainder, ?signA, ?signX,
    sameBeyondRegs_of_frame (setAX_frame ..)⟩
  all_goals simp only [State.setX_regA, State.setX_regX, State.setA_regA]
  case dividend => rw [mag_mkword _ hquot, mag_mkword _ (hrem.trans hv30), Nat.div_add_mod']
  case remainder => rwa [mag_mkword _ (hrem.trans hv30)]
  case signA => exact sign_mkword _ hquot
  case signX => exact sign_mkword _ (hrem.trans hv30)

/-- Settles O33: the overflow sets OT; the rest is DIV's frame. -/
theorem divideOverflows : Obligations.DivideOverflows := by
  intro a f s v hv h0 hle
  obtain ⟨t, ht, hot⟩ := divide_of_overflow h0 hle
  obtain ⟨hregs, hpc, hci, hmem, hz, -⟩ := divide_ok ht
  exact ⟨t, (exec_div_of_operand hv).trans (congrArg _ ht), hot, hregs, hpc, hci, fun _ => hmem ▸ rfl, hz⟩

/-- The field `(0:0)` selects no byte: the truncation is the zero with the value's sign. -/
theorem truncateToField_empty (w : Word) : truncateToField w 0 = .ok (mkword (sign w) 0) := by
  have hselect : mag w / 64 ^ (5 - fieldR 0) % 64 ^ fieldBytes 0 = 0 := Nat.mod_one _
  rw [truncateToField_of_legal w rfl, hselect]
  rfl

/-- Settles O34: the divisor is checked first, and the field `(0:0)` gives one of magnitude 0. -/
theorem divideByZeroFaults : Obligations.DivideByZeroFaults := by
  intro a s
  have hzero : ∀ (f : Byte) (v : Word), operandIs a f s v → mag v = 0 →
      exec (.div a f) s = .fault (.raised (.divisionByZero v) s) := by
    intro f v hv h0
    rw [exec_div_of_operand hv, conclude_eq_raised, divide_error_iff]
    exact ⟨h0, rfl⟩
  exact ⟨hzero, fun e he hlt => hzero 0 _ ⟨e, he, hlt, truncateToField_empty _⟩ (mag_mkword _ (by decide))⟩

/-! ### Address transfer -/

/-- Settles O35: an enter is one register write, of a word whose value is M or -M. -/
theorem enterRule : Obligations.EnterRule := by
  intro a i r negateValue s m hi hm
  have hvalue := toInt_addressWord negateValue hm
  obtain ⟨hmag, -⟩ := addressWord_spec a negateValue (natAbs_lt_of_indexedAddress hm)
  rw [exec_enter_of_indexedAddress hi hm, ← hmag]
  refine ⟨fun hfits => ?writes, fun hr hwide => ?faults⟩
  case writes =>
    obtain ⟨t, ht⟩ := writeReg_succeeds (s := s) hfits
    obtain ⟨hread, hregs, hbeyond, -⟩ := writeReg_ok ht
    exact ⟨t, conclude_eq_next.mpr ht, hread ▸ hvalue, hregs, hbeyond⟩
  case faults => exact ⟨_, hvalue, conclude_eq_raised.mpr (writeReg_error_iff.mpr ⟨hr, hwide, rfl⟩)⟩

/-- An increase whose sum its register takes: the effect and the frame of the signed addition. -/
theorem exec_increase_completes {a : Addr} {i : Instr} {r : Reg} {negateValue : Bool} {s : State} {m : Int}
    (hi : (i, r, negateValue) ∈ increases a) (hm : indexedAddress a s = .ok m)
    (hfits : r.wide = true ∨ (toInt (s.readReg r) + (if negateValue then -m else m)).natAbs < 2 ^ 12) :
    ∃ t, exec i s = .next t ∧ keepsSum r (toInt (s.readReg r) + (if negateValue then -m else m)) s t ∧
      sameRegsBut [r] s t ∧ t.pc = s.pc ∧ t.ci = s.ci ∧ sameMem s t ∧ sameModel s t := by
  rw [← toInt_addressWord negateValue hm] at hfits ⊢
  obtain ⟨t, ht⟩ := signedAdd_succeeds hfits
  rw [exec_increase_of_indexedAddress hi hm]
  exact ⟨t, conclude_eq_next.mpr ht, signedAdd_effect ht⟩

/-- Settles O37: a wide register takes every sum. -/
theorem increaseWideRegister : Obligations.IncreaseWideRegister :=
  fun _ _ _ _ _ _ hi hr hm => exec_increase_completes hi hm (.inl hr)

/-- Settles O38: a sum of 12 bits is kept exactly, so OT stays. -/
theorem increaseIndexRegister : Obligations.IncreaseIndexRegister := by
  intro a i r negateValue s m hi _ hm hsum
  obtain ⟨t, ht, hkeeps, hregs, hpc, hci, hmem, hmodel⟩ := exec_increase_completes hi hm (.inr hsum)
  obtain ⟨-, hot⟩ := hkeeps.1 (by omega)
  exact ⟨t, ht, hkeeps, hregs, hpc, ⟨hot, hci⟩, hmem, hmodel⟩

end Sys2Proof.Machine
end

section
/-! Comparisons of zeros (46 R251) and the unconditional jumps (47 R280, R281). -/

namespace Sys2Proof.Machine

theorem toInt_of_mag_zero {w : Word} (h : mag w = 0) : toInt w = 0 := Int.natAbs_eq_zero.mp ((toInt_natAbs w).trans h)

theorem toInt_zeros {w : Word} (h : w ∈ [mkword false 0, mkword true 0]) : toInt w = 0 := by
  simp only [List.mem_cons, List.not_mem_nil, or_false] at h
  obtain rfl | rfl := h <;> exact toInt_of_mag_zero (mag_mkword _ (by decide))

/-- The field `(0:0)` of any word has the value 0. -/
theorem toInt_of_truncateToField_empty {v w : Word} (h : truncateToField v 0 = .ok w) : toInt w = 0 := by
  obtain rfl := Except.ok.inj ((truncateToField_empty v).symm.trans h)
  exact toInt_of_mag_zero (mag_mkword _ (by decide))

/-- Settles O41: the indicator is Equal iff the values are, and zeros and empty fields have the value 0. -/
theorem zerosCompareEqual : Obligations.ZerosCompareEqual := by
  intro a f i r s vm vr hi hvm hvr
  obtain ⟨vr', hvr', hexec⟩ := exec_compare_of_operand hi (operandIs_iff.mp hvm)
  obtain rfl : vr = vr' := Except.ok.inj (hvr.symm.trans hvr')
  obtain ⟨-, hequal, -⟩ := compareInts_iff (toInt vr) (toInt vm)
  refine ⟨_, hexec, hequal, fun hr hm => hequal.mpr ((toInt_zeros hr).trans (toInt_zeros hm).symm), ?emptyField⟩
  rintro rfl
  obtain ⟨e, -, -, hm⟩ := hvm
  exact hequal.mpr ((toInt_of_truncateToField_empty hvr).trans (toInt_of_truncateToField_empty hm).symm)

/-- The sub-modes 0 and 1 always branch, and leave OT. -/
theorem unconditionalJump_completes {a : Addr} {s : State} {e sub : Nat} (f : Byte) (hs : s.dispatched = true)
    (he : effectiveAddress a s = .ok e) (hsub : sub = 0 ∨ sub = 1) :
    ∃ t, jumpOp none sub f a s = .next t ∧ t.pc.toNat = e ∧ sameFlags s t ∧ sameMem s t ∧ sameModel s t := by
  obtain ⟨t, ht⟩ := jumpOp_completes (r := none) (f := f) (pc_le_of_dispatched hs) (show sub ≤ 9 by omega) he
  have hc : jumpCondition none sub s = some true := by
    obtain rfl | rfl := hsub <;> rfl
  obtain ⟨-, -, hci, hmem, hot⟩ := jumpOp_next_frame ht
  rw [if_neg (by omega)] at hot
  exact ⟨t, ht, jumpOp_next_branch ht he nofun hc, ⟨hot, hci⟩, fun _ => hmem ▸ rfl, jumpOp_next_model ht⟩

/-- Settles O44: JMP is sub-mode 0 and JSJ sub-mode 1, which saves nothing in J. -/
theorem unconditionalJumps : Obligations.UnconditionalJumps := by
  intro a s e hs he
  constructor
  · obtain ⟨t, ht, hpc, hrest⟩ := unconditionalJump_completes 0 hs he (.inl rfl)
    obtain ⟨hregs, -⟩ := jumpOp_next_frame ht
    exact ⟨t, ht, hpc, jumpOp_next_readReg_j ht (by decide), hregs, hrest⟩
  · obtain ⟨t, ht, hpc, hrest⟩ := unconditionalJump_completes 1 hs he (.inr rfl)
    obtain ⟨hregs, hj, -⟩ := jumpOp_next_frame ht
    exact ⟨t, ht, hpc, (sameRegsBut_nil_iff hregs).mpr (hj rfl), hrest⟩

end Sys2Proof.Machine
end

section
/-! The shifts (48): the plain ones, and the circulating ones as one rotation of the ten digits of A:X, with the
statements. -/

namespace Sys2Proof.Machine

/-! ### What a shift answers -/

/-- A shift's only check is its address (48 R340). -/
theorem exec_shift_of_address {i : Instr} {a : Addr} {s : State} {n : Nat} (hi : i ∈ shifts a)
    (he : effectiveAddress a s = .ok n) : exec i s = .next (shiftOf i n s) := by
  rw [exec_shift hi, conclude_eq_next, shiftOp_ok_iff]
  exact ⟨n, he, rfl⟩

/-- A new magnitude for A: its sign stays, and nothing else changes. -/
theorem setA_mag_effect (s : State) {m : Nat} (h : m < 2 ^ 30) :
    mag (s.setA (mkword (sign s.regA) m)).regA = m ∧ sign (s.setA (mkword (sign s.regA) m)).regA = sign s.regA ∧
      sameRegsBut [.a] s (s.setA (mkword (sign s.regA) m)) ∧ sameBeyondRegs s (s.setA (mkword (sign s.regA) m)) := by
  rw [State.setA_regA]
  exact ⟨mag_mkword _ h, sign_mkword _ h, sameBeyondRegs_of_frame (setA_frame ..)⟩

/-- A new value for A:X: the signs stay, and nothing else changes. -/
theorem setPairAX_effect (s : State) {v : Nat} (h : v < 2 ^ 60) :
    (s.setPairAX v).pairAX = v ∧ sign (s.setPairAX v).regA = sign s.regA ∧ sign (s.setPairAX v).regX = sign s.regX ∧
      sameRegsBut [.a, .x] s (s.setPairAX v) ∧ sameBeyondRegs s (s.setPairAX v) := by
  obtain ⟨hvalue, hsignA, hsignX, -⟩ := setPairAX_spec s h
  exact ⟨hvalue, hsignA, hsignX, sameBeyondRegs_of_frame (setAX_frame ..)⟩

/-! ### The plain shifts -/

/-- Settles O48: the bounded power of the model's plain shifts gives what the rule's power gives. -/
theorem plainShifts : Obligations.PlainShifts := by
  intro a s n he
  have runs {i : Instr} (hi : i ∈ shifts a) : exec i s = .next (shiftOf i n s) := exec_shift_of_address hi he
  refine ⟨⟨_, runs (by simp [shifts]), ?sla⟩, ⟨_, runs (by simp [shifts]), ?sra⟩, ⟨_, runs (by simp [shifts]), ?slax⟩,
    ⟨_, runs (by simp [shifts]), ?srax⟩⟩
  case sla =>
    rw [← mul_bytePower_mod (k := 30) (by decide)]
    exact setA_mag_effect s (Nat.mod_lt _ (by decide))
  case sra =>
    have hmag := mag_lt s.regA
    rw [← div_bytePower (by omega)]
    exact setA_mag_effect s ((Nat.div_le_self _ _).trans_lt hmag)
  case slax =>
    rw [← mul_bytePower_mod (k := 60) le_rfl]
    exact setPairAX_effect s (Nat.mod_lt _ (by decide))
  case srax =>
    rw [← div_bytePower (pairAX_lt s)]
    exact setPairAX_effect s ((Nat.div_le_self _ _).trans_lt (pairAX_lt s))

/-! ### Rotating ten digits -/

/-- `v` with its ten digits rotated to the left by `k`: its low `10 - k` digits, then its high `k`. -/
def rotateDigits (k v : Nat) : Nat := 64 ^ k * (v % 64 ^ (10 - k)) + v / 64 ^ (10 - k)

section
variable {k v : Nat}

theorem rotateDigits_parts_lt (hk : k ≤ 10) (hv : v < 64 ^ 10) :
    v % 64 ^ (10 - k) < 64 ^ (10 - k) ∧ v / 64 ^ (10 - k) < 64 ^ k := by
  refine ⟨Nat.mod_lt _ (by positivity), Nat.div_lt_of_lt_mul ?_⟩
  rwa [← Nat.pow_add, Nat.sub_add_cancel hk]

theorem rotateDigits_lt (hk : k ≤ 10) (hv : v < 64 ^ 10) : rotateDigits k v < 64 ^ 10 := by
  obtain ⟨hlow, hhigh⟩ := rotateDigits_parts_lt hk hv
  have hlt := append_lt hlow hhigh
  rwa [Nat.add_sub_cancel' hk] at hlt

theorem digit_rotateDigits (hk : k ≤ 10) (hv : v < 64 ^ 10) {j : Nat} (hj : j < 10) :
    digit (rotateDigits k v) j = digit v ((j + (10 - k)) % 10) := by
  obtain ⟨-, hhigh⟩ := rotateDigits_parts_lt hk hv
  rw [rotateDigits, digit_append _ hhigh]
  split
  case isTrue hlow =>
    rw [digit_div_pow]
    congr 1; omega
  case isFalse hlow =>
    rw [digit_mod_pow, if_pos (by omega)]
    congr 1; omega

/-- Rotating on to ten digits is rotating back. -/
theorem rotateDigits_cancel (hk : k ≤ 10) (hv : v < 64 ^ 10) : rotateDigits (10 - k) (rotateDigits k v) = v := by
  obtain ⟨-, hhigh⟩ := rotateDigits_parts_lt hk hv
  have hback : 10 - (10 - k) = k := by omega
  simp only [rotateDigits, hback]
  rw [Nat.mul_add_mod, Nat.mod_eq_of_lt hhigh, Nat.mul_add_div (by positivity), Nat.div_eq_of_lt hhigh, Nat.add_zero,
    Nat.div_add_mod]

theorem rotateDigits_zero (hv : v < 64 ^ 10) : rotateDigits 0 v = v := by
  rw [rotateDigits, Nat.pow_zero, Nat.one_mul, Nat.sub_zero, Nat.mod_eq_of_lt hv, Nat.div_eq_of_lt hv, Nat.add_zero]

theorem rotateDigits_ten (v : Nat) : rotateDigits 10 v = v := by
  rw [rotateDigits, Nat.sub_self, Nat.pow_zero, Nat.mod_one, Nat.mul_zero, Nat.zero_add, Nat.div_one]

/-- A left shift within ten digits drops the high digits before it moves the others. -/
theorem mul_pow_mod_ten_digits (hk : k ≤ 10) (v : Nat) : v * 64 ^ k % 2 ^ 60 = 64 ^ k * (v % 64 ^ (10 - k)) := by
  have hpow : 2 ^ 60 = 64 ^ (10 - k) * 64 ^ k := by
    rw [← Nat.pow_add, Nat.sub_add_cancel hk]
    norm_num
  rw [hpow, Nat.mul_mod_mul_right, Nat.mul_comm]

end

/-- SLC rotates to the left by the distance modulo 10. -/
theorem rotateLeftAX_eq (n : Nat) (s : State) : rotateLeftAX n s = s.setPairAX (rotateDigits (n % 10) s.pairAX) := by
  rw [rotateLeftAX, mul_pow_mod_ten_digits (by omega), rotateDigits]

/-- SRC rotates to the left by ten less the distance modulo 10. -/
theorem rotateRightAX_eq (n : Nat) (s : State) :
    rotateRightAX n s = s.setPairAX (rotateDigits (10 - n % 10) s.pairAX) := by
  have hback : 10 - (10 - n % 10) = n % 10 := by omega
  rw [rotateRightAX, mul_pow_mod_ten_digits (by omega), rotateDigits, hback, Nat.add_comm]

theorem exec_slc {a : Addr} {s : State} {n : Nat} (he : effectiveAddress a s = .ok n) :
    exec (.slc a) s = .next (s.setPairAX (rotateDigits (n % 10) s.pairAX)) := by
  rw [exec_shift_of_address (by simp [shifts]) he, ← rotateLeftAX_eq]
  rfl

theorem exec_src {a : Addr} {s : State} {n : Nat} (he : effectiveAddress a s = .ok n) :
    exec (.src a) s = .next (s.setPairAX (rotateDigits (10 - n % 10) s.pairAX)) := by
  rw [exec_shift_of_address (by simp [shifts]) he, ← rotateRightAX_eq]
  rfl

/-- Byte `j` of A:X after a rotation of A:X to the left by `k`. -/
theorem pairByte_rotate (s : State) {k j : Nat} (hk : k ≤ 10) (hj : j < 10) :
    (s.setPairAX (rotateDigits k s.pairAX)).pairByte j = s.pairByte ((j + (10 - k)) % 10) := by
  obtain ⟨hvalue, -⟩ := setPairAX_effect s (rotateDigits_lt hk (pairAX_lt s))
  rw [State.pairByte, hvalue]
  exact digit_rotateDigits hk (pairAX_lt s) hj

/-- Settles O49: the digits of the rotation, for each of the two directions. -/
theorem circularShiftsMoveBytes : Obligations.CircularShiftsMoveBytes := by
  intro a s n he
  refine ⟨⟨_, exec_slc he, fun k hk => ?slc, ?_⟩, ⟨_, exec_src he, fun k hk => ?src, ?_⟩⟩
  case slc =>
    rw [pairByte_rotate s (by omega) (by omega)]
    congr 1; omega
  case src =>
    rw [pairByte_rotate s (by omega) hk]
    congr 1; omega
  all_goals exact (setPairAX_effect s (rotateDigits_lt (by omega) (pairAX_lt s))).2

/-! ### The rotations cancel -/

/-- The index registers are neither A nor X, so a write to A:X changes no address. -/
theorem effectiveAddress_setPairAX (a : Addr) (s : State) (v : Nat) :
    effectiveAddress a (s.setPairAX v) = effectiveAddress a s := by
  have hindex : indexValue a.i (s.setPairAX v) = indexValue a.i s := by
    unfold indexValue
    split
    case isTrue => rfl
    case isFalse =>
      cases hr : indexRegister a.i with
      | none => rfl
      | some r =>
        have hrAX : r ∉ [Reg.a, Reg.x] := by
          obtain ⟨-, rfl⟩ | ⟨-, rfl⟩ | ⟨-, rfl⟩ | ⟨-, rfl⟩ | ⟨-, rfl⟩ | ⟨-, rfl⟩ := indexRegister_some_iff.mp hr <;>
            decide
        exact congrArg (fun w => Except.ok (toInt w)) (readReg_setAX hrAX ..)
  unfold effectiveAddress indexedAddress
  rw [hindex]

theorem setAX_setAX (s : State) (v w v' w' : Word) :
    (((s.setA v).setX w).setA v').setX w' = (s.setA v').setX w' := rfl

theorem setPairAX_setPairAX (s : State) {v : Nat} (hv : v < 2 ^ 60) (w : Nat) :
    (s.setPairAX v).setPairAX w = s.setPairAX w := by
  obtain ⟨-, hsignA, hsignX, -⟩ := setPairAX_spec s hv
  conv_lhs => rw [State.setPairAX, hsignA, hsignX]
  exact setAX_setAX ..

theorem setPairAX_pairAX (s : State) : s.setPairAX s.pairAX = s := by
  have hx := mag_lt s.regX
  have hhigh : s.pairAX / 2 ^ 30 = mag s.regA := by
    rw [State.pairAX]
    omega
  have hlow : s.pairAX % 2 ^ 30 = mag s.regX := by
    rw [State.pairAX]
    omega
  rw [State.setPairAX, hhigh, hlow, mkword_sign_mag, mkword_sign_mag]
  rfl

/-- A rotation by the half of the digits swaps A and X. -/
theorem rotateDigits_five_pairAX (s : State) : rotateDigits 5 s.pairAX = mag s.regX * 2 ^ 30 + mag s.regA := by
  have hx := mag_lt s.regX
  rw [rotateDigits, State.pairAX]
  omega

/-- Settles O50: the two rotations make up ten digits; by ten less the distance SRC rotates as SLC; five digits are a
half. -/
theorem circularShiftsCancel : Obligations.CircularShiftsCancel := by
  refine ⟨fun a s n he => ?undo, fun a b s n ha hb => ?same, fun a s he => ?halves⟩
  case undo =>
    have hlt := rotateDigits_lt (k := n % 10) (by omega) (pairAX_lt s)
    obtain ⟨hvalue, -⟩ := setPairAX_effect s hlt
    refine ⟨_, exec_slc he, ?_⟩
    rw [exec_src ((effectiveAddress_setPairAX ..).trans he), hvalue, rotateDigits_cancel (by omega) (pairAX_lt s),
      setPairAX_setPairAX s hlt, setPairAX_pairAX]
  case same =>
    rw [exec_slc ha, exec_src hb]
    obtain h0 | h0 := Nat.eq_zero_or_pos (n % 10)
    · have hten : 10 - (10 - n % 10) % 10 = 10 := by omega
      rw [hten, rotateDigits_ten, h0, rotateDigits_zero (pairAX_lt s)]
    · have hback : 10 - (10 - n % 10) % 10 = n % 10 := by omega
      rw [hback]
  case halves =>
    have ha := mag_lt s.regA
    have hx := mag_lt s.regX
    have hlt := rotateDigits_lt (k := 5) (by decide) (pairAX_lt s)
    obtain ⟨hvalue, -⟩ := setPairAX_effect s hlt
    refine ⟨_, exec_src he, ?_⟩
    have hmagA := mag_lt (s.setPairAX (rotateDigits 5 s.pairAX)).regA
    have hmagX := mag_lt (s.setPairAX (rotateDigits 5 s.pairAX)).regX
    rw [rotateDigits_five_pairAX, State.pairAX] at hvalue
    rw [rotateDigits_five_pairAX] at hmagA hmagX
    simp only [Nat.reduceMod, Nat.reduceSub, rotateDigits_five_pairAX]
    omega

end Sys2Proof.Machine
end

section
/-! MOVE (49 R360, R361): the count 0, the range check, the copy and the advance of I1. -/

namespace Sys2Proof.Machine

/-- A count of 0 does nothing, and looks at no range (49 R361). -/
theorem exec_move_of_zero {a : Addr} {s : State} {src : Nat} (he : effectiveAddress a s = .ok src) :
    exec (.move a 0) s = .next s := by
  rw [exec_move, conclude_eq_next, moveOp_ok_iff]
  exact ⟨src, he, .inl ⟨rfl, rfl⟩⟩

/-- Settles O51: no words; a range that leaves memory; the copy, which overlaps forward or is exact. -/
theorem moveRule : Obligations.MoveRule := by
  refine fun a count s src hwf he => ⟨fun h0 => h0 ▸ exec_move_of_zero he, fun h0 => ?_⟩
  have hn : 0 < count.toNat := by bv_omega
  refine ⟨fun hrange => ?faults, fun d hd hsrc hdst => ?copies⟩
  case faults =>
    rw [exec_move, conclude_eq_raised, moveOp_error_iff]
    exact .inr ⟨src, he, hn, hrange, rfl⟩
  case copies =>
    obtain ⟨t, ht, hi1, hmem⟩ := exec_move_completes he hd hn hsrc hdst
    obtain ⟨houtside, hframe⟩ := moveFrame a count s t ht
    exact ⟨t, ht, hi1, fun h k hk => hmem ▸ copyWords_read_of_no_forward_overlap hwf hdst hk h,
      fun b hb => houtside b (by omega), hframe⟩

end Sys2Proof.Machine
end
